-- ==== Sys2Proof/Word.lean ====
section
/-! DEFINITION. The words of the JT-640's two ports: a byte of the Request Port, a 16-bit word of the
Medium Port, and a 48-bit station address (spec 01 R3: the part compares all 48 bits and gives no
meaning to any part of them). -/

namespace Sys2Proof

/-- One byte of an SPI transaction (R177). -/
abbrev Byte := BitVec 8

/-- One word of the Medium Port, its start mark in bit 15 (R158, R187). -/
abbrev Word := BitVec 16

/-- A station address (R3). -/
abbrev Address := BitVec 48

end Sys2Proof
end

