-- ==== Sys2Proof/Config.lean ====
section
/-! DEFINITION. What the part fixes: the sizes of its tables and queues and its identification.
No value of the spec is left free, so no constant here is without a body. -/

namespace Sys2Proof.Config

/-- The number of station records (R1). -/
abbrev records : Nat := 640

/-- The number of tickets (R117). -/
abbrev tickets : Nat := 24

/-- The number of Tier Table entries (R73). -/
abbrev tiers : Nat := 8

/-- The depth of the inbound queue and of the answer queue (R160, R162). -/
abbrev mediumDepth : Nat := 16

/-- The depth of the Notice Queue (R171). -/
abbrev noticeDepth : Nat := 32

/-- The addresses the Stranger Filter holds at most (R57). -/
abbrev filterDepth : Nat := 8

/-- The visits of one OPPORTUNITY at most (R107). -/
abbrev visitBudget : Nat := 64

/-- The lowest balance (R82, R86). -/
abbrev lowestBalance : Int := -32768

/-- The largest consumed (R7). -/
abbrev consumedMax : Nat := 4294967295

/-- The largest grant count (R7). -/
abbrev grantCountMax : Nat := 65535

/-- The largest window or podium usage (R143). -/
abbrev usageMax : Nat := 16777215

/-- The largest background-skip counter (R100). -/
abbrev skipMax : Nat := 255

/-- The longest body of a request or answer frame (R185). -/
abbrev bodyMax : Nat := 160

/-- The part code IDENTIFY reports (R183). -/
abbrev partCode : Nat := 0x0640

/-- The revision IDENTIFY reports (R183). -/
abbrev revision : Nat := 3

end Sys2Proof.Config
end

