-- ==== Sys2Proof/Syntax.lean ====
section
/-! DEFINITION. The commands of the block: one constructor of Instr for each row of
spec/opcode_table.json. A row that is worked from a message or request the part already holds carries
no operand of its own (log entry 2); a row that is an event on a pin carries what the pins carry. -/

namespace Sys2Proof

/-- Which part of an SPI transaction a command stands for (R177: a transaction is the span from a fall
of CSn to the next rise, and it is judged by the port state as it stood when CSn fell). -/
inductive SpiSpan where
  /-- CSn falls: the port state is latched, and nothing else happens yet. -/
  | fall
  /-- CSn rises: the transaction takes its effect, judged by the latched state. -/
  | rise
  /-- CSn falls and rises with nothing between: both at once. -/
  | whole
deriving DecidableEq, Repr

/-- The commands, in the table's order. -/
inductive Instr where
  /-- HARD_RESET (R20): the levels that the power-on detector and RSTn now give, true for 'holds the part
  in reset'. Both false releases the part. -/
  | hardReset (powerOn pin : Bool)
  /-- MESSAGE_ARRIVAL (R160): a MIN_WR strobe by which a message arrives. -/
  | messageArrival (w : Word)
  /-- STRAY_BODY_WORD (R159): a MIN_WR strobe with a body word and no message in assembly. -/
  | strayBodyWord (w : Word)
  /-- ANSWER_WORD_READ (R162): a MOUT_RD strobe. -/
  | answerWordRead
  /-- MESSAGE_TAKE (R163). -/
  | messageTake
  /-- OPPORTUNITY (R95). -/
  | opportunity
  /-- COMPLETE (R124). -/
  | complete
  /-- HEARD (R51). -/
  | heard
  /-- DEMAND (R60). -/
  | demand
  /-- RESYNC (R136). -/
  | resync
  /-- TICKET_DUE (R130). -/
  | ticketDue
  /-- EXPIRY (R131). -/
  | expiry
  /-- PERIOD_TIMER_EXPIRY (R64). -/
  | periodTimerExpiry
  /-- SWEEPER_STEP (R66). -/
  | sweeperStep
  /-- WINDOW_END (R144). -/
  | windowEnd
  /-- HOLD_COUNTER_EXPIRY (R154). -/
  | holdCounterExpiry
  /-- COALESCE_TIMER_EXPIRY (R173). -/
  | coalesceTimerExpiry
  /-- SUBMIT (R178): the whole bytes clocked in after the direction byte, and the bits of a last byte
  that was not complete when CSn rose. -/
  | submit (span : SpiSpan) (bytes : List Byte) (tailBits : Nat)
  /-- COLLECT (R180): how many whole bytes were clocked after the direction byte, and the bits of a last
  byte that was not complete when CSn rose. -/
  | collect (span : SpiSpan) (clocked : Nat) (tailBits : Nat)
  /-- STATUS_ONLY_TRANSACTION (R177): the direction byte, none when CSn rose before it was complete, and
  how many whole bytes were clocked after it. -/
  | statusOnlyTransaction (span : SpiSpan) (direction : Option Byte) (clocked : Nat)
  /-- IDENTIFY (R183). -/
  | identify
  /-- ADMIT (R28). -/
  | admitStation
  /-- AMEND (R39). -/
  | amend
  /-- RETIRE (R46). -/
  | retire
  /-- LOOKUP (R16). -/
  | lookup
  /-- READ_RECORD (R21). -/
  | readRecord
  /-- LIST (R26). -/
  | list
  /-- READ_TICKETS (R140). -/
  | readTickets
  /-- SET_CLASS (R35). -/
  | setClass
  /-- SET_TIER_WRITE (R78). -/
  | setTierWrite
  /-- SET_TIER_INVALIDATE (R79). -/
  | setTierInvalidate
  /-- SET_SCHEDULER (R114). -/
  | setScheduler
  /-- SET_PRESENCE (R71). -/
  | setPresence
  /-- SET_GOVERNOR (R153). -/
  | setGovernor
  /-- SET_NOTICE (R175). -/
  | setNotice
  /-- READ_SETTINGS (R182). -/
  | readSettings
  /-- READ_GOVERNOR (R150). -/
  | readGovernor
  /-- HOLD (R156). -/
  | hold
  /-- FETCH_NOTICES (R172). -/
  | fetchNotices
  /-- RESET_FULL (R184). -/
  | resetFull
  /-- RESET_ACCOUNTS (R87). -/
  | resetAccounts
  /-- ASSEMBLY_WORD (R158): a MIN_WR strobe that starts or goes on with an assembly and completes no
  message. -/
  | assemblyWord (w : Word)
  /-- CSN_SEEN_HIGH (R181). -/
  | csnSeenHigh
deriving DecidableEq, Repr

end Sys2Proof
end

