-- ==== Sys2Proof/WellFormed.lean ====
section
/-! DEFINITION. Which commands are well formed: those whose operands the pins can carry. The machine
itself is total, so an ill-formed command also has an outcome; these checks say which commands stand
for an event of the board. -/

namespace Sys2Proof

/-- The start mark of a word written on MIN_D (R158, R187). -/
abbrev startMark (w : Word) : Bool := w.getLsbD 15

/-- The direction byte of a SUBMIT (Table 10-3). -/
abbrev directionSubmit : Byte := 0xA5

/-- The direction byte of a COLLECT (Table 10-3). -/
abbrev directionCollect : Byte := 0x5A

/-- A well-formed command. A stray body word has its start mark clear (R159). A fall of CSn clocks no
bit. An incomplete byte has fewer than 8 bits (R178). A direction byte that is SUBMIT or COLLECT is not
status-only, and where CSn rises before the direction byte is complete no byte follows it (R177). -/
def Instr.wellFormed : Instr → Bool
  | .strayBodyWord w => !startMark w
  | .submit .fall bytes tailBits => bytes.isEmpty && tailBits == 0
  | .submit .rise _ tailBits => decide (tailBits < 8)
  | .submit .whole _ tailBits => decide (tailBits < 8)
  | .collect .fall clocked tailBits => clocked == 0 && tailBits == 0
  | .collect .rise _ tailBits => decide (tailBits < 8)
  | .collect .whole _ tailBits => decide (tailBits < 8)
  | .statusOnlyTransaction .fall direction clocked => direction.isNone && clocked == 0
  | .statusOnlyTransaction _ none clocked => clocked == 0
  | .statusOnlyTransaction _ (some d) _ => d != directionSubmit && d != directionCollect
  | .hardReset .. | .messageArrival .. | .answerWordRead | .messageTake | .opportunity | .complete
  | .heard | .demand | .resync | .ticketDue | .expiry | .periodTimerExpiry | .sweeperStep | .windowEnd
  | .holdCounterExpiry | .coalesceTimerExpiry | .identify | .admitStation | .amend | .retire | .lookup
  | .readRecord | .list | .readTickets | .setClass | .setTierWrite | .setTierInvalidate | .setScheduler
  | .setPresence | .setGovernor | .setNotice | .readSettings | .readGovernor | .hold | .fetchNotices
  | .resetFull | .resetAccounts | .assemblyWord .. | .csnSeenHigh => true

end Sys2Proof
end

