-- ==== Sys2Proof/Machine/State.lean ====
section
/-! DEFINITION. The state of the JT-640: every record, list, ticket, queue, timer and setting the spec
gives the part, as plain data, and the machine right after reset. The blocks follow spec 00, Table 3-1.
What is derived at use (the address index, class occupancies, listed mark, successor, tier, and the
pins MIN_FULL, MOUT_VALID, MOUT_D, RDY) has no field: it is computed from its one home. -/

namespace Sys2Proof.Machine

/-! ### The station record (spec 01) -/

/-- The three classes (R3). -/
inductive Cls where
  | podium
  | seat
  | background
deriving DecidableEq, Repr

/-- One thing for each class. -/
structure ClassMap (α : Type) where
  podium : α
  seat : α
  background : α
deriving DecidableEq, Repr

/-- What began a retirement (R8). -/
inductive DrainCause where
  | host
  | aged
deriving DecidableEq, Repr

/-- The states of a record that is not FREE (R10). The drain cause is present exactly in RETIRING
(R2, R8). -/
inductive RecordState where
  | active
  | dozing
  | barred
  | retiring (cause : DrainCause)
deriving DecidableEq, Repr

/-- The last power-save indication heard (R5). -/
inductive PsMark where
  | awake
  | asleep
deriving DecidableEq, Repr

/-- The fields of a record that is not FREE (R2, Table 1-1). -/
structure Record where
  state : RecordState
  address : Address
  cls : Cls
  /-- 1..8. -/
  weight : Nat
  label : Option (BitVec 16)
  /-- 1..65,535 passes. -/
  lingerOverride : Option Nat
  /-- 200..8,000 µs. -/
  burstOverride : Option Nat
  psMark : PsMark
  aged : Bool
  /-- 0..30,000 in 0.1 Mb/s, 0 for not known. -/
  rate : Nat
  /-- −32,768 µs to the class balance cap. -/
  balance : Int
  /-- 0..1,023 frames. -/
  backlog : Nat
  /-- Tickets held, 0..4. -/
  held : Nat
  /-- 0..65,535 passes. -/
  linger : Nat
  /-- 0..4,294,967,295 µs, saturating. -/
  consumed : Nat
  /-- 0..65,535, saturating. -/
  grantCount : Nat
  lowest : Int
  highest : Nat
deriving DecidableEq, Repr

/-! ### Tickets (spec 06) -/

/-- What a ticket holds while it is ISSUED (R117). -/
structure Issue where
  /-- The holder's handle, 0..639. -/
  holder : Nat
  /-- The airtime limit, 1..8,000 µs. -/
  limit : Nat
  /-- The deadline, held as the µs left to it; 0 or below once it has been reached (R130, log entry 5). -/
  left : Int
deriving DecidableEq, Repr

/-- One ticket: FREE when it has no issue, ISSUED when it has one (R117). The sequence wraps at 256
(R118). -/
structure Ticket where
  seq : BitVec 8
  issue : Option Issue
deriving DecidableEq, Repr

/-! ### The Table Arbiter (spec 01, section 1.4) -/

/-- The four clients of the Station Table, in the rotation's order (R19). -/
inductive Client where
  | mediumEngine
  | requestEngine
  | ticketTimer
  | sweeper
deriving DecidableEq, Repr

/-- The Table Arbiter (R19): the client whose transaction holds the table, and the client served most
recently. -/
structure Arbiter where
  holder : Option Client
  lastServed : Client
deriving DecidableEq, Repr

/-! ### Settings (the settings store of the Request Engine) -/

/-- The six settings of a class (R33, Table 2-4). -/
structure ClassSettings where
  capacity : Nat
  lingerReload : Nat
  autoRetire : Bool
  ticketCap : Nat
  initialBalance : Nat
  balanceCap : Nat
deriving DecidableEq, Repr

/-- The values of a valid Tier Table entry (R73, Table 4-1). -/
structure TierEntry where
  rateLimit : Nat
  quantum : Nat
  burstCap : Nat
  crowdedBurstCap : Nat
  frameCap : Nat
deriving DecidableEq, Repr

/-- The scheduler settings (R114). -/
structure SchedulerSettings where
  /-- ms. -/
  ticketLifetime : Nat
  /-- %. -/
  podiumShare : Nat
  /-- grants. -/
  backgroundInterval : Nat
deriving DecidableEq, Repr

/-- The presence settings (R71). -/
structure PresenceSettings where
  /-- ms. -/
  passPeriod : Nat
  mgmtSwitch : Bool
  dataSwitch : Bool
  ctrlSwitch : Bool
deriving DecidableEq, Repr

/-- The governor settings (R152). -/
structure GovernorSettings where
  /-- ON is true. -/
  mode : Bool
  /-- ms. -/
  window : Nat
  enter : Nat
  exit : Nat
  minHold : Nat
deriving DecidableEq, Repr

/-- The notice settings (R175). -/
structure NoticeSettings where
  coalesceCount : Nat
  /-- ms. -/
  coalesceTime : Nat
deriving DecidableEq, Repr

/-- Every settings group. -/
structure Settings where
  classes : ClassMap ClassSettings
  tiers : Vector (Option TierEntry) 8
  scheduler : SchedulerSettings
  presence : PresenceSettings
  governor : GovernorSettings
  notice : NoticeSettings
deriving DecidableEq, Repr

/-! ### The Load Governor and the Sweeper (spec 07, 03) -/

/-- The Load Governor's state (R142). -/
inductive Load where
  | calm
  | crowded
deriving DecidableEq, Repr

/-- What the Load Governor holds (R142, Table 7-1). -/
structure Governor where
  load : Load
  countdown : Nat
  windowUsage : Nat
  podiumUsage : Nat
  lastUtilization : Nat
  busiest : Nat
  /-- The window timer: µs left in the current window. -/
  windowLeft : Nat
  /-- The hold counter in µs (R154). -/
  hold : Nat
deriving DecidableEq, Repr

/-- What the Sweeper holds (R63): the µs left to the period timer's next expiry, and the pass position. -/
structure Sweeper where
  periodLeft : Nat
  pass : Option Nat
deriving DecidableEq, Repr

/-! ### Notices (spec 09) -/

/-- The kind of a heard frame (R51). -/
inductive FrameKind where
  | mgmt
  | data
  | ctrl
deriving DecidableEq, Repr

/-- The retire outcome of an AGED notice (R67). -/
inductive RetireOutcome where
  | none
  | freed
  | draining
deriving DecidableEq, Repr

/-- The cause of a RETIRED notice (R47). -/
inductive RetiredCause where
  | host
  | aged
  | resync
deriving DecidableEq, Repr

/-- The five kinds of notice with their fields (Table 9-1). -/
inductive NoticeBody where
  | stranger (address : Address) (kind : FrameKind) (rate : Option Nat)
  | aged (handle : Nat) (address : Address) (label : Option (BitVec 16)) (outcome : RetireOutcome)
  | retired (handle : Nat) (address : Address) (label : Option (BitVec 16)) (consumed : Nat)
      (cause : RetiredCause)
  | expired (handle : Nat) (label : Option (BitVec 16)) (ticket charge : Nat)
  | governor (load : Load) (utilization : Nat)
deriving DecidableEq, Repr

/-- A notice with its timestamp (R170). -/
structure Notice where
  stamp : BitVec 32
  body : NoticeBody
deriving DecidableEq, Repr

/-- The Notice Queue (R171, R173): the notices, oldest first, the overflow mark, the coalescing timer
(none when stopped, else the µs left) and ATTN (true when asserted). -/
structure NoticeQueue where
  queue : List Notice
  overflow : Bool
  timer : Option Nat
  attn : Bool
deriving DecidableEq, Repr

/-! ### The Medium Port and Medium Engine (spec 08) -/

/-- A message as its words were written: the header word and the body words so far (R158). -/
structure RawMessage where
  header : Word
  body : List Word
deriving DecidableEq, Repr

/-- The report of a COMPLETE (R124, Table 6-2). -/
structure Completion where
  ticket : Nat
  seq : BitVec 8
  used : Nat
  sent : Nat
  acked : Nat
  rate : Option Nat
  backlog : Option Nat
deriving DecidableEq, Repr

/-- The fields of a HEARD (R51, Table 3-1). -/
structure Hearing where
  address : Address
  kind : FrameKind
  psMark : PsMark
  rate : Option Nat
deriving DecidableEq, Repr

/-- A message that has passed the common checks. -/
inductive MessageBody where
  | opportunity (offered : Nat)
  | complete (report : Completion)
  | heard (hearing : Hearing)
  | demand (handle backlog : Nat)
  | quiet (duration : Nat)
  | resync
deriving DecidableEq, Repr

/-- A message with its tag. -/
structure Message where
  tag : BitVec 4
  body : MessageBody
deriving DecidableEq, Repr

/-- The reasons of BAD_MESSAGE (Table 8-2). -/
inductive BadReason where
  | kind
  | length
  | spare
  | range
deriving DecidableEq, Repr

/-- The answers of the Medium Port with their fields (Tables 8-1, 10-13). -/
inductive MediumAnswer where
  | grant (ticket : Nat) (seq : BitVec 8) (handle : Nat) (address : Address) (limit frameCap : Nat)
  | hold (counter : Nat)
  | noTicket
  /-- NONE (R108). -/
  | nothing
  | defer (visits : Nat)
  /-- DONE, with the holder's handle when it answers a COMPLETE. -/
  | done (handle : Option Nat)
  | stale (ticket : Nat) (seq : BitVec 8)
  | known (handle : Nat)
  | unknown
  | notLive
  | resynced (returned : Nat)
  | needResync (kind : BitVec 4)
  | badMessage (kind : BitVec 4) (reason : BadReason)
deriving DecidableEq, Repr

/-- An answer in the answer queue: its tag, its overrun flag and the answer (R162). -/
structure QueuedAnswer where
  tag : BitVec 4
  overrun : Bool
  answer : MediumAnswer
deriving DecidableEq, Repr

/-- The engine states (R164). -/
inductive EngineState where
  | awaitResync
  | running
deriving DecidableEq, Repr

/-- The Medium Port and Medium Engine. -/
structure MediumPort where
  /-- The message in assembly (R158). -/
  assembly : Option RawMessage
  /-- The inbound queue, oldest first (R160). -/
  inbound : List RawMessage
  /-- The answer queue, oldest first (R162). -/
  answers : List QueuedAnswer
  /-- The words of the head answer already read (R162). -/
  headRead : Nat
  /-- The overrun mark (R161). -/
  overrun : Bool
  engine : EngineState
  /-- The message taken, checked and held until its table transaction is granted (R168). -/
  work : Option Message
deriving DecidableEq, Repr

/-! ### The Request Port and Request Engine (spec 10) -/

/-- The fields of an ADMIT (R27, Table 2-1). -/
structure Admission where
  address : Address
  cls : Cls
  weight : Nat
  label : Option (BitVec 16)
  lingerOverride : Option Nat
  burstOverride : Option Nat
deriving DecidableEq, Repr

/-- The items of an AMEND (R38, Table 2-5). For an optional field, some none is REMOVE. -/
structure Amendment where
  cls : Option Cls
  weight : Option Nat
  label : Option (Option (BitVec 16))
  lingerOverride : Option (Option Nat)
  burstOverride : Option (Option Nat)
  barred : Option Bool
  toInitial : Bool
deriving DecidableEq, Repr

/-- The items of a SET_CLASS (R34). -/
structure ClassItems where
  capacity : Option Nat
  lingerReload : Option Nat
  autoRetire : Option Bool
  ticketCap : Option Nat
  initialBalance : Option Nat
  balanceCap : Option Nat
deriving DecidableEq, Repr

/-- The items of a SET_SCHEDULER (R114). -/
structure SchedulerItems where
  ticketLifetime : Option Nat
  podiumShare : Option Nat
  backgroundInterval : Option Nat
deriving DecidableEq, Repr

/-- The items of a SET_PRESENCE (R71). -/
structure PresenceItems where
  passPeriod : Option Nat
  mgmtSwitch : Option Bool
  dataSwitch : Option Bool
  ctrlSwitch : Option Bool
deriving DecidableEq, Repr

/-- The items of a SET_GOVERNOR (R152). -/
structure GovernorItems where
  mode : Option Bool
  window : Option Nat
  enter : Option Nat
  exit : Option Nat
  minHold : Option Nat
deriving DecidableEq, Repr

/-- The items of a SET_NOTICE (R175). -/
structure NoticeItems where
  coalesceCount : Option Nat
  coalesceTime : Option Nat
deriving DecidableEq, Repr

/-- The settings groups of READ_SETTINGS (R182). -/
inductive Group where
  | classes
  | tiers
  | scheduler
  | presence
  | governor
  | notice
deriving DecidableEq, Repr

/-- A request that has passed its field checks (Table 10-1). -/
inductive Request where
  | identify
  | admitStation (a : Admission)
  | amend (handle : Nat) (a : Amendment)
  | retire (handle : Nat)
  | lookup (address : Address)
  | readRecord (handle : Nat) (clear : Bool)
  | list (cls : Cls) (start count : Nat)
  | readTickets
  | setClass (cls : Cls) (items : ClassItems)
  | setTierWrite (entry : Nat) (values : TierEntry)
  | setTierInvalidate (entry : Nat)
  | setScheduler (items : SchedulerItems)
  | setPresence (items : PresenceItems)
  | setGovernor (items : GovernorItems)
  | setNotice (items : NoticeItems)
  | readSettings (group : Group)
  | readGovernor (clear : Bool)
  | hold (ms : Nat)
  | fetchNotices (maximum : Nat)
  | resetFull
  | resetAccounts
deriving DecidableEq, Repr

/-- The cause in the reset cause record (R183). -/
inductive ResetCause where
  | powerOn
  | pin
  | request
deriving DecidableEq, Repr

/-- The reset cause record (R183). -/
structure ResetRecord where
  cause : ResetCause
  count : Nat
deriving DecidableEq, Repr

/-- What READ_RECORD reports of a record (R21, R9). -/
structure RecordImage where
  handle : Nat
  record : Record
  tier : Nat
  listed : Bool
  successor : Option Nat
deriving DecidableEq, Repr

/-- What READ_TICKETS reports of one ISSUED ticket (R140). -/
structure IssueView where
  holder : Nat
  limit : Nat
  remaining : Nat
deriving DecidableEq, Repr

/-- What READ_TICKETS reports of one ticket (R140). -/
structure TicketView where
  seq : BitVec 8
  issue : Option IssueView
deriving DecidableEq, Repr

/-- The contents of one settings group (Table 10-9). -/
inductive GroupContents where
  | classes (settings : ClassMap ClassSettings) (occupancy : ClassMap Nat)
  | tiers (entries : Vector (Option TierEntry) 8)
  | scheduler (settings : SchedulerSettings) (skip : Nat)
  | presence (settings : PresenceSettings)
  | governor (settings : GovernorSettings)
  | notice (settings : NoticeSettings)
deriving DecidableEq, Repr

/-- The answers of the Request Port with their fields (Table 10-6). -/
inductive HostAnswer where
  | done
  | badField
  | unknownRequest
  | checkFailed
  | admitted (handle : Nat)
  | duplicate (handle : Nat)
  | classFull
  | tableFull
  | notLive
  | freed (handle : Nat) (address : Address) (label : Option (BitVec 16)) (consumed : Nat)
  | draining (handle held : Nat)
  | alreadyRetiring (held : Nat)
  | known (handle : Nat)
  | unknown
  | record (image : RecordImage)
  | free (handle : Nat)
  | listed (cls : Cls) (length start : Nat) (handles : List Nat)
  | tickets (views : List TicketView) (pool : List Nat)
  | order (valid : Nat)
  | inUse (occupancy : Nat)
  | settings (contents : GroupContents)
  | governorState (load : Load) (countdown windowUsage podiumUsage lastUtilization busiest hold : Nat)
  | notices (overflow : Bool) (returned : List Notice) (left : Nat)
  | identity (reset : ResetRecord)
deriving DecidableEq, Repr

/-- The Request Port's state (R177). WORKING holds the request being executed, ANSWER_READY the answer in
the buffer: the buffer holds an answer exactly while the port is ANSWER_READY. -/
inductive PortState where
  | idle
  | working (request : Request)
  | answerReady (answer : HostAnswer)
deriving DecidableEq, Repr

/-- The port state as the status byte reports it (Table 10-3). -/
inductive PortStatus where
  | idle
  | working
  | answerReady
deriving DecidableEq, Repr

/-- The Request Port. -/
structure RequestPort where
  port : PortState
  /-- The port state as it stood when CSn fell, while CSn is low in a transaction the part follows
  (R177). -/
  csn : Option PortStatus
  /-- CSn has been seen high since the last hard reset (R181). -/
  csnSeen : Bool
  /-- The whole bytes the last transaction clocked out on MISO (log entry 8). -/
  miso : List Byte
deriving DecidableEq, Repr

/-! ### The machine -/

/-- The levels of the two hard-reset inputs, true while they hold the part in reset (R183). -/
structure ResetPins where
  powerOn : Bool
  pin : Bool
deriving DecidableEq, Repr

/-- The timebase: µs time and ms time, both wrapping at 32 bits (R130, R170), and the µs run of the
current ms. -/
structure Timebase where
  us : BitVec 32
  ms : BitVec 32
  frac : Nat
deriving DecidableEq, Repr

/-- The whole state of the part, with the queue of commands that wait. -/
structure State where
  /-- The commands waiting, first in, first out. -/
  pending : List Instr
  pins : ResetPins
  resetRecord : ResetRecord
  time : Timebase
  arbiter : Arbiter
  /-- The station records by handle; FREE is none (R1, R2). -/
  records : Vector (Option Record) 640
  /-- The service lists, head first (R90). -/
  lists : ClassMap (List Nat)
  /-- The background-skip counter (R100). -/
  skip : Nat
  /-- The tickets by number (R117). -/
  tickets : Vector Ticket 24
  /-- The free pool, head first (R119). -/
  pool : List Nat
  /-- The Ticket Timer has a transaction asked for or granted (R130). -/
  timerAsked : Bool
  gov : Governor
  sweeper : Sweeper
  /-- The Stranger Filter, oldest first (R57). -/
  strangers : List Address
  medium : MediumPort
  notices : NoticeQueue
  req : RequestPort
  settings : Settings
deriving DecidableEq, Repr

/-- Why a step stops. The spec names no condition that stops the part (INVENTORY.md, Faults), so no
meaning raises a fault. -/
inductive Fault where
  /-- Raised by nobody: the host's interface asks for a type of faults. Safe. -/
  | none
deriving DecidableEq, Repr

/-- Why a command has no outcome. -/
inductive Refusal where
  /-- Raised by exec for a command that has no meaning yet; no arm does. Safe. -/
  | notModelled (mnemonic : String)
deriving DecidableEq, Repr

/-! ### Reset values -/

/-- The class settings at reset (R33, Table 2-4). -/
def ClassSettings.reset : ClassMap ClassSettings where
  podium := ⟨16, 7200, false, 4, 8000, 32767⟩
  seat := ⟨640, 900, true, 2, 2000, 16000⟩
  background := ⟨640, 300, true, 1, 0, 8000⟩

/-- The Tier Table at reset (R73). -/
def TierEntry.reset : Vector (Option TierEntry) 8 :=
  #v[some ⟨30000, 500, 4000, 2000, 32⟩, none, none, none, none, none, none, none]

/-- Every settings group at reset (R33, R73, R114, R71, R152, R175). -/
def Settings.reset : Settings where
  classes := ClassSettings.reset
  tiers := TierEntry.reset
  scheduler := ⟨20, 40, 16⟩
  presence := ⟨1000, true, false, false⟩
  governor := ⟨true, 100, 85, 70, 20⟩
  notice := ⟨4, 50⟩

/-- The Load Governor at reset (R142). -/
def Governor.reset : Governor := ⟨.calm, 0, 0, 0, 0, 0, 100 * 1000, 0⟩

/-- The Sweeper at reset (R63). -/
def Sweeper.reset : Sweeper := ⟨1000 * 1000, none⟩

/-- The Medium Port and Medium Engine at reset (R169). -/
def MediumPort.reset : MediumPort := ⟨none, [], [], 0, false, .awaitResync, none⟩

/-- The Notice Queue at reset (R176). -/
def NoticeQueue.reset : NoticeQueue := ⟨[], false, none, false⟩

/-- The Request Port after a hard reset (R177, R181). -/
def RequestPort.reset : RequestPort := ⟨.idle, none, false, []⟩

/-- The machine right after a power-on reset, its reset inputs released. -/
def State.reset : State where
  pending := []
  pins := ⟨false, false⟩
  resetRecord := ⟨.powerOn, 0⟩
  time := ⟨0, 0, 0⟩
  arbiter := ⟨none, .sweeper⟩
  records := Vector.replicate 640 none
  lists := ⟨[], [], []⟩
  skip := 0
  tickets := Vector.replicate 24 ⟨0, none⟩
  pool := List.range 24
  timerAsked := false
  gov := Governor.reset
  sweeper := Sweeper.reset
  strangers := []
  medium := MediumPort.reset
  notices := NoticeQueue.reset
  req := RequestPort.reset
  settings := Settings.reset

end Sys2Proof.Machine
end

