-- ==== Sys2Proof/Machine/Operands.lean ====
section
/-! DEFINITION. The wire formats of spec 10, section 10.3: byte and bit fields, the CRC-8, the decoding
of request frames and medium messages into requests and messages with their field checks, and the
layout of every answer on both ports. -/

namespace Sys2Proof.Machine

/-! ### Bytes and bit fields -/

/-- The number that bytes give, most significant byte first (R185). -/
def natOfBytes (bytes : List Byte) : Nat := bytes.foldl (fun n b => n * 256 + b.toNat) 0

/-- A number in `n` bytes, most significant byte first (R185). -/
def bytesOfNat : Nat → Nat → List Byte
  | 0, _ => []
  | n + 1, v => BitVec.ofNat 8 (v / 256 ^ n) :: bytesOfNat n v

/-- A signed number in two bytes, two's complement (R185). -/
def bytesOfInt (v : Int) : List Byte := bytesOfNat 2 (BitVec.ofInt 16 v).toNat

/-- The byte at a position of a body, as a number. -/
def byteAt (body : List Byte) (i : Nat) : Nat := (body.getD i 0).toNat

/-- The `n` bytes at a position of a body, as a number. -/
def fieldAt (body : List Byte) (i n : Nat) : Nat := natOfBytes ((body.drop i).take n)

/-- ON, YES, AWAKE, TRUE are coded 1, the others 0 (R185). -/
def flagByte (b : Bool) : Byte := if b then 1 else 0

/-- The bits `lo` to `lo + n - 1` of a medium word, as a number. -/
def bitsAt (w : Word) (lo n : Nat) : Nat := (w.toNat / 2 ^ lo) % 2 ^ n

/-! ### CRC-8 -/

/-- One shift of the CRC-8 register (R185). -/
def crcShift (r : Byte) : Byte := if r.getLsbD 7 then (r <<< 1) ^^^ 0x07 else r <<< 1

/-- One byte taken into the CRC-8 register (R185). -/
def crcByte (r b : Byte) : Byte :=
  crcShift (crcShift (crcShift (crcShift (crcShift (crcShift (crcShift (crcShift (r ^^^ b))))))))

/-- The CRC-8 of bytes in order (R185). -/
def crc8 (bytes : List Byte) : Byte := bytes.foldl crcByte 0

/-! ### Codes -/

/-- The class a code names (R185). -/
def Cls.ofCode : Nat → Option Cls
  | 0 => some .podium
  | 1 => some .seat
  | 2 => some .background
  | _ => none

/-- The code of a class (R185). -/
def Cls.code : Cls → Nat
  | .podium => 0
  | .seat => 1
  | .background => 2

/-- The value of an ON or OFF, YES or NO byte (R185); any other value is outside its code list. -/
def flagOfCode : Nat → Option Bool
  | 0 => some false
  | 1 => some true
  | _ => none

/-- The settings group a code names (Table 10-4). -/
def Group.ofCode : Nat → Option Group
  | 1 => some .classes
  | 2 => some .tiers
  | 3 => some .scheduler
  | 4 => some .presence
  | 5 => some .governor
  | 6 => some .notice
  | _ => none

/-! ### Items (Table 10-5) -/

/-- The items of a body, as identifiers and values: none when an identifier is unknown to `width` or the
length does not match (R186). -/
def takeItems (width : Nat → Option Nat) : Nat → List Byte → Option (List (Nat × Nat))
  | _, [] => some []
  | 0, _ :: _ => none
  | fuel + 1, id :: rest =>
    match width id.toNat with
    | none => none
    | some n =>
      if rest.length < n then none
      else (takeItems width fuel (rest.drop n)).map fun items =>
        (id.toNat, natOfBytes (rest.take n)) :: items

/-- The items of a body that passes the item checks: identifiers known, no item twice (two identifiers
of one slot count as one item), every value in its range. -/
def itemsOf (width : Nat → Option Nat) (slot : Nat → Nat) (inRange : Nat → Nat → Bool)
    (body : List Byte) : Option (List (Nat × Nat)) :=
  match takeItems width body.length body with
  | none => none
  | some items =>
    if decide ((items.map fun p => slot p.1).Nodup) && items.all (fun p => inRange p.1 p.2)
    then some items else none

/-- The value of an item that is present. -/
def itemValue (items : List (Nat × Nat)) (id : Nat) : Option Nat := items.lookup id

/-- The value of an ON or OFF item that is present. -/
def itemFlag (items : List (Nat × Nat)) (id : Nat) : Option Bool := (itemValue items id).map (· == 1)

/-- An optional field's item: SET under one identifier, REMOVE under the next (Table 10-5). -/
def itemOptional (items : List (Nat × Nat)) (setId : Nat) : Option (Option Nat) :=
  match itemValue items setId with
  | some v => some (some v)
  | none => (itemValue items (setId + 1)).map fun _ => none

/-- A number lies in a range, both bounds included. -/
abbrev between (lo v hi : Nat) : Bool := decide (lo ≤ v) && decide (v ≤ hi)

/-! ### Request bodies (R186) -/

/-- ADMIT (R27). -/
def parseAdmission (body : List Byte) : Option Request :=
  let present := byteAt body 8
  let label := present.testBit 0
  let linger := present.testBit 1
  let burst := present.testBit 2
  let lingerAt := 9 + 2 * label.toNat
  let burstAt := lingerAt + 2 * linger.toNat
  let weight := byteAt body 7
  let lingerValue := fieldAt body lingerAt 2
  let burstValue := fieldAt body burstAt 2
  match Cls.ofCode (byteAt body 6) with
  | none => none
  | some cls =>
    if decide (9 ≤ body.length) && decide (present < 8)
        && body.length == burstAt + 2 * burst.toNat && between 1 weight 8
        && (!linger || between 1 lingerValue 65535) && (!burst || between 200 burstValue 8000) then
      some (.admitStation
        { address := BitVec.ofNat 48 (fieldAt body 0 6)
          cls := cls
          weight := weight
          label := if label then some (BitVec.ofNat 16 (fieldAt body 9 2)) else none
          lingerOverride := if linger then some lingerValue else none
          burstOverride := if burst then some burstValue else none })
    else none

/-- The bytes of an AMEND item's value (Table 10-5). -/
def amendWidth : Nat → Option Nat
  | 1 => some 1
  | 2 => some 1
  | 3 => some 2
  | 4 => some 0
  | 5 => some 2
  | 6 => some 0
  | 7 => some 2
  | 8 => some 0
  | 9 => some 1
  | 10 => some 0
  | _ => none

/-- SET and REMOVE of one field count as one item (R186). -/
def amendSlot : Nat → Nat
  | 4 => 3
  | 6 => 5
  | 8 => 7
  | id => id

/-- The ranges of Table 2-5. -/
def amendInRange : Nat → Nat → Bool
  | 1, v => decide (v ≤ 2)
  | 2, v => between 1 v 8
  | 5, v => between 1 v 65535
  | 7, v => between 200 v 8000
  | 9, v => decide (v ≤ 1)
  | _, _ => true

/-- AMEND (R38). -/
def parseAmendment (body : List Byte) : Option Request :=
  let handle := fieldAt body 0 2
  match itemsOf amendWidth amendSlot amendInRange (body.drop 2) with
  | none => none
  | some items =>
    if decide (2 ≤ body.length) && decide (handle ≤ 639) then
      some (.amend handle
        { cls := (itemValue items 1).bind Cls.ofCode
          weight := itemValue items 2
          label := (itemOptional items 3).map (·.map (BitVec.ofNat 16))
          lingerOverride := itemOptional items 5
          burstOverride := itemOptional items 7
          barred := itemFlag items 9
          toInitial := (itemValue items 10).isSome })
    else none

/-- RETIRE (R46). -/
def parseRetire (body : List Byte) : Option Request :=
  let handle := fieldAt body 0 2
  if body.length == 2 && decide (handle ≤ 639) then some (.retire handle) else none

/-- LOOKUP (R16). -/
def parseLookup (body : List Byte) : Option Request :=
  if body.length == 6 then some (.lookup (BitVec.ofNat 48 (fieldAt body 0 6))) else none

/-- READ_RECORD (R21). -/
def parseReadRecord (body : List Byte) : Option Request :=
  let handle := fieldAt body 0 2
  match flagOfCode (byteAt body 2) with
  | none => none
  | some clear =>
    if body.length == 3 && decide (handle ≤ 639) then some (.readRecord handle clear) else none

/-- LIST (R26). -/
def parseList (body : List Byte) : Option Request :=
  let start := fieldAt body 1 2
  let count := byteAt body 3
  match Cls.ofCode (byteAt body 0) with
  | none => none
  | some cls =>
    if body.length == 4 && decide (start ≤ 639) && between 1 count 16
    then some (.list cls start count) else none

/-- The bytes of a SET_CLASS item's value (Table 10-5). -/
def classWidth : Nat → Option Nat
  | 1 => some 2
  | 2 => some 2
  | 3 => some 1
  | 4 => some 1
  | 5 => some 2
  | 6 => some 2
  | _ => none

/-- The ranges of Table 2-4 that do not depend on the class's other settings. -/
def classInRange : Nat → Nat → Bool
  | 1, v => decide (v ≤ 640)
  | 2, v => between 1 v 65535
  | 3, v => decide (v ≤ 1)
  | 4, v => between 1 v 4
  | 6, v => between 1000 v 32767
  | _, _ => true

/-- The class settings that items leave (R35). -/
def ClassItems.apply (i : ClassItems) (c : ClassSettings) : ClassSettings where
  capacity := i.capacity.getD c.capacity
  lingerReload := i.lingerReload.getD c.lingerReload
  autoRetire := i.autoRetire.getD c.autoRetire
  ticketCap := i.ticketCap.getD c.ticketCap
  initialBalance := i.initialBalance.getD c.initialBalance
  balanceCap := i.balanceCap.getD c.balanceCap

/-- The one of three things that a class names. -/
def ClassMap.get {α : Type} (m : ClassMap α) : Cls → α
  | .podium => m.podium
  | .seat => m.seat
  | .background => m.background

/-- Three things with the one of a class replaced. -/
def ClassMap.set {α : Type} (m : ClassMap α) (c : Cls) (v : α) : ClassMap α :=
  match c with
  | .podium => { m with podium := v }
  | .seat => { m with seat := v }
  | .background => { m with background := v }

/-- SET_CLASS (R34): the initial balance after the request is at most the balance cap after it. -/
def parseSetClass (settings : Settings) (body : List Byte) : Option Request :=
  match body with
  | [] => none
  | code :: rest =>
    match Cls.ofCode code.toNat, itemsOf classWidth id classInRange rest with
    | some cls, some items =>
      let i : ClassItems :=
        { capacity := itemValue items 1
          lingerReload := itemValue items 2
          autoRetire := itemFlag items 3
          ticketCap := itemValue items 4
          initialBalance := itemValue items 5
          balanceCap := itemValue items 6 }
      let after := i.apply (settings.classes.get cls)
      if after.initialBalance ≤ after.balanceCap then some (.setClass cls i) else none
    | _, _ => none

/-- The ranges of Table 4-1, with the crowded burst cap at most the burst cap (R77). -/
def TierEntry.inRange (e : TierEntry) : Bool :=
  between 1 e.rateLimit 30000 && between 1 e.quantum 8000 && between 200 e.burstCap 8000
    && between 200 e.crowdedBurstCap e.burstCap && between 1 e.frameCap 64

/-- SET_TIER (R77): operation 1 is WRITE, 2 is INVALIDATE. -/
def parseSetTier (body : List Byte) : Option Request :=
  let entry := byteAt body 1
  if decide (entry ≤ 7) then
    match byteAt body 0 with
    | 1 =>
      let e : TierEntry :=
        { rateLimit := fieldAt body 2 2
          quantum := fieldAt body 4 2
          burstCap := fieldAt body 6 2
          crowdedBurstCap := fieldAt body 8 2
          frameCap := byteAt body 10 }
      if body.length == 11 && e.inRange then some (.setTierWrite entry e) else none
    | 2 => if body.length == 2 then some (.setTierInvalidate entry) else none
    | _ => none
  else none

/-- The bytes of a SET_SCHEDULER item's value (Table 10-5). -/
def schedulerWidth (id : Nat) : Option Nat := if between 1 id 3 then some 1 else none

/-- The ranges of Table 5-6. -/
def schedulerInRange : Nat → Nat → Bool
  | 1, v => between 1 v 255
  | 2, v => decide (v ≤ 100)
  | 3, v => between 1 v 255
  | _, _ => true

/-- SET_SCHEDULER (R114). -/
def parseSetScheduler (body : List Byte) : Option Request :=
  (itemsOf schedulerWidth id schedulerInRange body).map fun items => .setScheduler
    { ticketLifetime := itemValue items 1
      podiumShare := itemValue items 2
      backgroundInterval := itemValue items 3 }

/-- The bytes of a SET_PRESENCE item's value (Table 10-5). -/
def presenceWidth : Nat → Option Nat
  | 1 => some 2
  | 2 => some 1
  | 3 => some 1
  | 4 => some 1
  | _ => none

/-- The ranges of Table 3-6. -/
def presenceInRange : Nat → Nat → Bool
  | 1, v => between 100 v 10000
  | _, v => decide (v ≤ 1)

/-- SET_PRESENCE (R71). -/
def parseSetPresence (body : List Byte) : Option Request :=
  (itemsOf presenceWidth id presenceInRange body).map fun items => .setPresence
    { passPeriod := itemValue items 1
      mgmtSwitch := itemFlag items 2
      dataSwitch := itemFlag items 3
      ctrlSwitch := itemFlag items 4 }

/-- The bytes of a SET_GOVERNOR item's value (Table 10-5). -/
def governorWidth : Nat → Option Nat
  | 1 => some 1
  | 2 => some 2
  | 3 => some 1
  | 4 => some 1
  | 5 => some 1
  | _ => none

/-- The ranges of Table 7-5 that do not depend on another setting. -/
def governorInRange : Nat → Nat → Bool
  | 1, v => decide (v ≤ 1)
  | 2, v => between 10 v 1000
  | 3, v => between 50 v 100
  | 4, v => between 5 v 95
  | 5, v => between 1 v 255
  | _, _ => true

/-- The governor settings that items leave (R153). -/
def GovernorItems.apply (i : GovernorItems) (g : GovernorSettings) : GovernorSettings where
  mode := i.mode.getD g.mode
  window := i.window.getD g.window
  enter := i.enter.getD g.enter
  exit := i.exit.getD g.exit
  minHold := i.minHold.getD g.minHold

/-- SET_GOVERNOR (R152): the exit threshold after the request is below the enter threshold after it. -/
def parseSetGovernor (settings : Settings) (body : List Byte) : Option Request :=
  match itemsOf governorWidth id governorInRange body with
  | none => none
  | some items =>
    let i : GovernorItems :=
      { mode := itemFlag items 1
        window := itemValue items 2
        enter := itemValue items 3
        exit := itemValue items 4
        minHold := itemValue items 5 }
    let after := i.apply settings.governor
    if after.exit < after.enter then some (.setGovernor i) else none

/-- The bytes of a SET_NOTICE item's value (Table 10-5). -/
def noticeWidth : Nat → Option Nat
  | 1 => some 1
  | 2 => some 2
  | _ => none

/-- The ranges of Table 9-2. -/
def noticeInRange : Nat → Nat → Bool
  | 1, v => between 1 v 32
  | 2, v => between 1 v 1000
  | _, _ => true

/-- SET_NOTICE (R175). -/
def parseSetNotice (body : List Byte) : Option Request :=
  (itemsOf noticeWidth id noticeInRange body).map fun items => .setNotice
    { coalesceCount := itemValue items 1
      coalesceTime := itemValue items 2 }

/-- READ_SETTINGS (R182). -/
def parseReadSettings (body : List Byte) : Option Request :=
  match Group.ofCode (byteAt body 0) with
  | none => none
  | some g => if body.length == 1 then some (.readSettings g) else none

/-- READ_GOVERNOR (R150). -/
def parseReadGovernor (body : List Byte) : Option Request :=
  match flagOfCode (byteAt body 0) with
  | none => none
  | some clear => if body.length == 1 then some (.readGovernor clear) else none

/-- HOLD (R156). -/
def parseHold (body : List Byte) : Option Request :=
  let ms := fieldAt body 0 2
  if body.length == 2 && decide (ms ≤ 4000) then some (.hold ms) else none

/-- FETCH_NOTICES (R172). -/
def parseFetchNotices (body : List Byte) : Option Request :=
  let maximum := byteAt body 0
  if body.length == 1 && between 1 maximum 8 then some (.fetchNotices maximum) else none

/-- RESET (R184): kind 1 is FULL, 2 is ACCOUNTS. -/
def parseReset (body : List Byte) : Option Request :=
  if body.length == 1 then
    match byteAt body 0 with
    | 1 => some .resetFull
    | 2 => some .resetAccounts
    | _ => none
  else none

/-- A request with an empty body (IDENTIFY, R183; READ_TICKETS, R140). -/
def parseEmpty (r : Request) (body : List Byte) : Option Request :=
  if body.isEmpty then some r else none

/-- What becomes of a request frame's code and body: none when the code is not in Table 10-1 (R179), some
none when the field checks refuse it, else the request. -/
def parseRequest (settings : Settings) (code : Nat) (body : List Byte) : Option (Option Request) :=
  match code with
  | 0x01 => some (parseEmpty .identify body)
  | 0x02 => some (parseAdmission body)
  | 0x03 => some (parseAmendment body)
  | 0x04 => some (parseRetire body)
  | 0x05 => some (parseLookup body)
  | 0x06 => some (parseReadRecord body)
  | 0x07 => some (parseList body)
  | 0x08 => some (parseEmpty .readTickets body)
  | 0x10 => some (parseSetClass settings body)
  | 0x11 => some (parseSetTier body)
  | 0x12 => some (parseSetScheduler body)
  | 0x13 => some (parseSetPresence body)
  | 0x14 => some (parseSetGovernor settings body)
  | 0x15 => some (parseSetNotice body)
  | 0x18 => some (parseReadSettings body)
  | 0x19 => some (parseReadGovernor body)
  | 0x1A => some (parseHold body)
  | 0x1B => some (parseFetchNotices body)
  | 0x1C => some (parseReset body)
  | _ => none

/-- Whether a group is table state, read in a transaction (R182). -/
def Group.usesTable : Group → Bool
  | .classes | .tiers | .scheduler => true
  | .presence | .governor | .notice => false

/-- Whether a request is executed inside a Request Engine transaction (R17, Table 10-1). -/
def Request.usesTable : Request → Bool
  | .admitStation .. | .amend .. | .retire .. | .lookup .. | .readRecord .. | .list .. | .readTickets
  | .setClass .. | .setTierWrite .. | .setTierInvalidate .. | .setScheduler .. | .resetFull
  | .resetAccounts => true
  | .readSettings g => g.usesTable
  | .identify | .setPresence .. | .setGovernor .. | .setNotice .. | .readGovernor .. | .hold ..
  | .fetchNotices .. => false

/-! ### Host answers (Tables 10-6 to 10-10) -/

/-- An optional number in `n` bytes, 0 when absent. -/
def optBytes (n : Nat) (v : Option Nat) : List Byte := bytesOfNat n (v.getD 0)

/-- An optional label in two bytes, 0 when absent. -/
def labelBytes (l : Option (BitVec 16)) : List Byte := optBytes 2 (l.map BitVec.toNat)

/-- The code of a record's state (Table 10-7). -/
def RecordState.code : RecordState → Nat
  | .active => 1
  | .dozing => 2
  | .barred => 3
  | .retiring _ => 4

/-- The drain cause's byte, 0 when the record is not RETIRING (Table 10-7). -/
def RecordState.drainByte : RecordState → Byte
  | .retiring .host => 1
  | .retiring .aged => 2
  | .active | .dozing | .barred => 0

/-- A byte whose low bits are marks, bit 0 first. That the bits above the last mark, to which Table 10-7 gives
no meaning, are 0 is the model's choice (log entry 16). -/
def marksByte (marks : List Bool) : Byte :=
  BitVec.ofNat 8 (marks.foldr (fun b n => b.toNat + 2 * n) 0)

/-- The record image, 42 bytes (Table 10-7). -/
def RecordImage.bytes (i : RecordImage) : List Byte :=
  let r := i.record
  let retiring := match r.state with
    | .retiring _ => true
    | _ => false
  bytesOfNat 2 i.handle ++ [BitVec.ofNat 8 r.state.code] ++ bytesOfNat 6 r.address.toNat
    ++ [BitVec.ofNat 8 r.cls.code, BitVec.ofNat 8 r.weight,
        marksByte [r.label.isSome, r.lingerOverride.isSome, r.burstOverride.isSome,
          i.successor.isSome, retiring]]
    ++ labelBytes r.label ++ optBytes 2 r.lingerOverride ++ optBytes 2 r.burstOverride
    ++ [marksByte [r.psMark == .awake, r.aged, i.listed]]
    ++ bytesOfNat 2 r.rate ++ bytesOfInt r.balance ++ bytesOfNat 2 r.backlog
    ++ [BitVec.ofNat 8 r.held] ++ bytesOfNat 2 r.linger ++ bytesOfNat 4 r.consumed
    ++ bytesOfNat 2 r.grantCount ++ bytesOfInt r.lowest ++ bytesOfNat 2 r.highest
    ++ [BitVec.ofNat 8 i.tier] ++ optBytes 2 i.successor ++ [r.state.drainByte]

/-- A 24-bit map with bit t for ticket t, in three bytes (Table 10-8). -/
def mapBytes (marks : List Bool) : List Byte :=
  bytesOfNat 3 (marks.foldr (fun b n => b.toNat + 2 * n) 0)

/-- The 40-bit value of an ISSUED ticket (Table 10-8): holder in 39:30, limit in 29:17, the low 17 bits of
the remaining time in 16:0. -/
def IssueView.bytes (v : IssueView) : List Byte :=
  bytesOfNat 5 (v.holder * 2 ^ 30 + v.limit * 2 ^ 17 + v.remaining % 2 ^ 17)

/-- The TICKETS body (Table 10-8). A FREE ticket's remaining time is absent (R140); that its bit in the map of
remaining-time bit 17 is 0 is the model's choice (log entry 16). -/
def ticketsBytes (views : List TicketView) (pool : List Nat) : List Byte :=
  views.map (fun v => v.seq)
    ++ mapBytes (views.map fun v => v.issue.isSome)
    ++ mapBytes (views.map fun v => match v.issue with
        | some i => i.remaining.testBit 17
        | none => false)
    ++ [BitVec.ofNat 8 pool.length] ++ pool.map (BitVec.ofNat 8)
    ++ views.flatMap (fun v => match v.issue with
        | some i => i.bytes
        | none => [])

/-- One class's settings and occupancy (Table 10-9). -/
def ClassSettings.bytes (c : ClassSettings) (occupancy : Nat) : List Byte :=
  bytesOfNat 2 c.capacity ++ bytesOfNat 2 c.lingerReload
    ++ [flagByte c.autoRetire, BitVec.ofNat 8 c.ticketCap]
    ++ bytesOfNat 2 c.initialBalance ++ bytesOfNat 2 c.balanceCap ++ bytesOfNat 2 occupancy

/-- One Tier Table entry, all 0 when invalid (Table 10-9). -/
def tierBytes : Option TierEntry → List Byte
  | some e => 1 :: (bytesOfNat 2 e.rateLimit ++ bytesOfNat 2 e.quantum ++ bytesOfNat 2 e.burstCap
      ++ bytesOfNat 2 e.crowdedBurstCap ++ [BitVec.ofNat 8 e.frameCap])
  | none => List.replicate 10 0

/-- The SETTINGS body: the group, then its contents (Table 10-9). -/
def GroupContents.bytes : GroupContents → List Byte
  | .classes c n => 1 :: (c.podium.bytes n.podium ++ c.seat.bytes n.seat
      ++ c.background.bytes n.background)
  | .tiers entries => 2 :: entries.toList.flatMap tierBytes
  | .scheduler c skip => [3, BitVec.ofNat 8 c.ticketLifetime, BitVec.ofNat 8 c.podiumShare,
      BitVec.ofNat 8 c.backgroundInterval, BitVec.ofNat 8 skip]
  | .presence c => 4 :: (bytesOfNat 2 c.passPeriod
      ++ [flagByte c.mgmtSwitch, flagByte c.dataSwitch, flagByte c.ctrlSwitch])
  | .governor c => 5 :: flagByte c.mode :: (bytesOfNat 2 c.window
      ++ [BitVec.ofNat 8 c.enter, BitVec.ofNat 8 c.exit, BitVec.ofNat 8 c.minHold])
  | .notice c => 6 :: BitVec.ofNat 8 c.coalesceCount :: bytesOfNat 2 c.coalesceTime

/-- The code of a load (Tables 10-6, 10-10). -/
def Load.code : Load → Nat
  | .calm => 0
  | .crowded => 1

/-- The code of a frame kind (Tables 10-10, 10-12). -/
def FrameKind.code : FrameKind → Nat
  | .mgmt => 0
  | .data => 1
  | .ctrl => 2

/-- The code of a retire outcome (Table 10-10). -/
def RetireOutcome.code : RetireOutcome → Nat
  | .none => 0
  | .freed => 1
  | .draining => 2

/-- The code of a RETIRED notice's cause (Table 10-10). -/
def RetiredCause.code : RetiredCause → Nat
  | .host => 0
  | .aged => 1
  | .resync => 2

/-- A notice's head byte: kind in bits 2:0, the optional field's presence in bit 3, the coded field in
bits 5:4 (R186). That bits 7:6, which R186 leaves out, are 0 is the model's choice (log entry 16). -/
def headByte (kind : Nat) (present : Bool) (coded : Nat) : Byte :=
  BitVec.ofNat 8 (kind + 8 * present.toNat + 16 * coded)

/-- A notice on the wire (Table 10-10). What the two bytes of an absent rate or label hold is not stated there
(the totals count them, and bit 3 of the head byte says that the field is absent); 0, as in the record
image, is the model's choice (log entry 15). -/
def Notice.bytes (n : Notice) : List Byte :=
  let stamp := bytesOfNat 4 n.stamp.toNat
  match n.body with
  | .stranger a k rate => headByte 1 rate.isSome k.code :: (stamp ++ bytesOfNat 6 a.toNat
      ++ optBytes 2 rate)
  | .aged h a label o => headByte 2 label.isSome o.code :: (stamp ++ bytesOfNat 2 h
      ++ bytesOfNat 6 a.toNat ++ labelBytes label)
  | .retired h a label consumed c => headByte 3 label.isSome c.code :: (stamp ++ bytesOfNat 2 h
      ++ bytesOfNat 6 a.toNat ++ labelBytes label ++ bytesOfNat 4 consumed)
  | .expired h label t charge => headByte 4 label.isSome 0 :: (stamp ++ bytesOfNat 2 h
      ++ labelBytes label ++ [BitVec.ofNat 8 t] ++ bytesOfNat 2 charge)
  | .governor l u => headByte 5 false l.code :: (stamp ++ [BitVec.ofNat 8 u])

/-- The code of a reset cause (Table 10-6). -/
def ResetCause.code : ResetCause → Nat
  | .powerOn => 1
  | .pin => 2
  | .request => 3

/-- The answer code (Table 10-6). -/
def HostAnswer.code : HostAnswer → Byte
  | .done => 0x01
  | .badField => 0x02
  | .unknownRequest => 0x03
  | .checkFailed => 0x04
  | .admitted .. => 0x05
  | .duplicate .. => 0x06
  | .classFull => 0x07
  | .tableFull => 0x08
  | .notLive => 0x09
  | .freed .. => 0x0A
  | .draining .. => 0x0B
  | .alreadyRetiring .. => 0x0C
  | .known .. => 0x0D
  | .unknown => 0x0E
  | .record .. => 0x0F
  | .free .. => 0x10
  | .listed .. => 0x11
  | .tickets .. => 0x12
  | .order .. => 0x13
  | .inUse .. => 0x14
  | .settings .. => 0x15
  | .governorState .. => 0x16
  | .notices .. => 0x17
  | .identity .. => 0x18

/-- The answer body (Table 10-6). Of the flags byte of NOTICES the table names bit 0 only; that bits 7:1 are 0
is the model's choice (log entry 16). -/
def HostAnswer.body : HostAnswer → List Byte
  | .done | .badField | .unknownRequest | .checkFailed | .classFull | .tableFull | .notLive
  | .unknown => []
  | .admitted h | .duplicate h | .known h | .free h => bytesOfNat 2 h
  | .freed h a label consumed => bytesOfNat 2 h ++ bytesOfNat 6 a.toNat ++ [flagByte label.isSome]
      ++ labelBytes label ++ bytesOfNat 4 consumed
  | .draining h held => bytesOfNat 2 h ++ [BitVec.ofNat 8 held]
  | .alreadyRetiring held => [BitVec.ofNat 8 held]
  | .record image => image.bytes
  | .listed c length start handles => BitVec.ofNat 8 c.code :: (bytesOfNat 2 length
      ++ bytesOfNat 2 start ++ [BitVec.ofNat 8 handles.length] ++ handles.flatMap (bytesOfNat 2))
  | .tickets views pool => ticketsBytes views pool
  | .order valid => [BitVec.ofNat 8 valid]
  | .inUse occupancy => bytesOfNat 2 occupancy
  | .settings contents => contents.bytes
  | .governorState load countdown window podium last busiest hold =>
      [BitVec.ofNat 8 load.code, BitVec.ofNat 8 countdown] ++ bytesOfNat 3 window
        ++ bytesOfNat 3 podium ++ [BitVec.ofNat 8 last, BitVec.ofNat 8 busiest] ++ bytesOfNat 3 hold
  | .notices overflow returned left =>
      [flagByte overflow, BitVec.ofNat 8 returned.length, BitVec.ofNat 8 left]
        ++ returned.flatMap Notice.bytes
  | .identity r => bytesOfNat 2 Config.partCode ++ [BitVec.ofNat 8 Config.revision]
      ++ bytesOfNat 2 Config.records
      ++ [BitVec.ofNat 8 Config.tickets, BitVec.ofNat 8 r.cause.code, BitVec.ofNat 8 r.count]

/-- The answer frame: code, length, body, CRC-8 (R180, Table 10-2). -/
def HostAnswer.frame (a : HostAnswer) : List Byte :=
  let bytes := a.code :: BitVec.ofNat 8 a.body.length :: a.body
  bytes ++ [crc8 bytes]

/-- The empty answer: code NO_ANSWER, length 0, check byte 0 (R180). -/
def noAnswerFrame : List Byte := [0, 0, 0]

/-! ### Medium messages (R166, R167, Tables 10-11, 10-12) -/

/-- The kind in a message's header word. -/
def RawMessage.kind (m : RawMessage) : BitVec 4 := BitVec.ofNat 4 (bitsAt m.header 11 4)

/-- The tag in a message's header word. -/
def RawMessage.tag (m : RawMessage) : BitVec 4 := BitVec.ofNat 4 (bitsAt m.header 7 4)

/-- The body words a header word declares. -/
def declaredWords (header : Word) : Nat := bitsAt header 3 4

/-- The header names the kind's first optional field present. -/
def RawMessage.first (m : RawMessage) : Bool := m.header.getLsbD 2

/-- The header names the kind's second optional field present. -/
def RawMessage.second (m : RawMessage) : Bool := m.header.getLsbD 1

/-- A body word of a message, 0 past its end. -/
def RawMessage.word (m : RawMessage) (i : Nat) : Word := m.body.getD i 0

/-- The body words a known kind has for the optional fields that the header names present; none for an
unknown kind (Table 8-2, Table 10-12). -/
def RawMessage.expectedWords (m : RawMessage) : Option Nat :=
  match m.kind.toNat with
  | 1 => some 1
  | 2 => some (3 + m.first.toNat + m.second.toNat)
  | 3 => some (5 + m.first.toNat)
  | 4 => some 2
  | 5 => some 2
  | 6 => some 0
  | _ => none

/-- A body word's bits from `n` up to bit 14 are 0 (spare, R187). -/
def spareFrom (w : Word) (n : Nat) : Bool := bitsAt w n (15 - n) == 0

/-- Every part that the kind's layout leaves spare is 0, presence marks of fields the kind does not have
included (Table 8-2, Table 10-12). -/
def RawMessage.spareClear (m : RawMessage) : Bool :=
  !m.header.getLsbD 0 &&
  match m.kind.toNat with
  | 2 => spareFrom (m.word 0) 13 && spareFrom (m.word 2) 14
      && (!m.second || spareFrom (m.word (3 + m.first.toNat)) 10)
  | 3 => !m.second && spareFrom (m.word 0) 12 && spareFrom (m.word 1) 12 && spareFrom (m.word 2) 12
      && spareFrom (m.word 3) 12 && spareFrom (m.word 4) 3
  | 4 => !m.first && !m.second && spareFrom (m.word 0) 10 && spareFrom (m.word 1) 10
  | 5 => !m.first && !m.second && spareFrom (m.word 0) 1
  | _ => !m.first && !m.second

/-- The frame kind a code names (Table 10-12). -/
def FrameKind.ofCode : Nat → Option FrameKind
  | 0 => some .mgmt
  | 1 => some .data
  | 2 => some .ctrl
  | _ => none

/-- An address in four body words of 12 bits each, most significant first (R187). -/
def RawMessage.address (m : RawMessage) : Address :=
  BitVec.ofNat 48 (((bitsAt (m.word 0) 0 12 * 4096 + bitsAt (m.word 1) 0 12) * 4096
    + bitsAt (m.word 2) 0 12) * 4096 + bitsAt (m.word 3) 0 12)

/-- A COMPLETE's fields (Table 10-12). -/
def RawMessage.completion (m : RawMessage) : Completion where
  ticket := bitsAt (m.word 0) 0 5
  seq := BitVec.ofNat 8 (bitsAt (m.word 0) 5 8)
  used := bitsAt (m.word 1) 0 15
  sent := bitsAt (m.word 2) 0 7
  acked := bitsAt (m.word 2) 7 7
  rate := if m.first then some (bitsAt (m.word 3) 0 15) else none
  backlog := if m.second then some (bitsAt (m.word (3 + m.first.toNat)) 0 10) else none

/-- The fields of a message of a known kind, when they pass the range checks of Table 8-3. -/
def RawMessage.fields (m : RawMessage) : Option MessageBody :=
  match m.kind.toNat with
  | 1 =>
    let offered := bitsAt (m.word 0) 0 15
    if offered = 0 ∨ 100 ≤ offered then some (.opportunity offered) else none
  | 2 =>
    let c := m.completion
    if c.ticket ≤ 23 ∧ c.sent ≤ 64 ∧ c.acked ≤ c.sent ∧ c.rate.getD 0 ≤ 30000
    then some (.complete c) else none
  | 3 =>
    let rate := if m.first then some (bitsAt (m.word 5) 0 15) else none
    match FrameKind.ofCode (bitsAt (m.word 4) 0 2) with
    | none => none
    | some kind =>
      if rate.getD 0 ≤ 30000 then
        some (.heard
          { address := m.address
            kind := kind
            psMark := if (m.word 4).getLsbD 2 then .asleep else .awake
            rate := rate })
      else none
  | 4 =>
    let handle := bitsAt (m.word 0) 0 10
    if handle ≤ 639 then some (.demand handle (bitsAt (m.word 1) 0 10)) else none
  | 5 => some (.quiet (bitsAt (m.word 0) 0 1 * 2 ^ 15 + bitsAt (m.word 1) 0 15))
  | 6 => some .resync
  | _ => none

/-- The checks of form, in the order of Table 8-2 (R166). -/
def RawMessage.check (m : RawMessage) : Except BadReason MessageBody :=
  match m.expectedWords with
  | none => .error .kind
  | some n =>
    if declaredWords m.header ≠ n ∨ m.body.length ≠ declaredWords m.header then .error .length
    else if !m.spareClear then .error .spare
    else match m.fields with
      | none => .error .range
      | some b => .ok b

/-! ### Medium answers (Tables 10-11, 10-13) -/

/-- The code of an answer's kind (R187). -/
def MediumAnswer.code : MediumAnswer → Nat
  | .grant .. => 1
  | .hold .. => 2
  | .noTicket => 3
  | .nothing => 4
  | .defer .. => 5
  | .done .. => 6
  | .stale .. => 7
  | .known .. => 8
  | .unknown => 9
  | .notLive => 10
  | .resynced .. => 11
  | .needResync .. => 12
  | .badMessage .. => 13

/-- The code of a BAD_MESSAGE's reason (Table 10-13). -/
def BadReason.code : BadReason → Nat
  | .kind => 0
  | .length => 1
  | .spare => 2
  | .range => 3

/-- A ticket-and-sequence word: ticket in bits 4:0, sequence in bits 12:5 (R187). -/
def ticketWord (ticket : Nat) (seq : BitVec 8) : Word := BitVec.ofNat 16 (ticket + 32 * seq.toNat)

/-- The four body words of an address (R187). -/
def addressWords (a : Address) : List Word :=
  [BitVec.ofNat 16 (a.toNat / 2 ^ 36 % 4096), BitVec.ofNat 16 (a.toNat / 2 ^ 24 % 4096),
    BitVec.ofNat 16 (a.toNat / 2 ^ 12 % 4096), BitVec.ofNat 16 (a.toNat % 4096)]

/-- An answer's body words (Table 10-13). Bits not laid out there are spare (R187), and a value is stated for
the spare bits of messages only (R166); that they are 0 in an answer is the model's choice (log entry 16). -/
def MediumAnswer.body : MediumAnswer → List Word
  | .grant t q h a limit cap => ticketWord t q :: BitVec.ofNat 16 h :: (addressWords a
      ++ [BitVec.ofNat 16 limit, BitVec.ofNat 16 cap])
  | .hold n => [BitVec.ofNat 16 (n / 2 ^ 15), BitVec.ofNat 16 (n % 2 ^ 15)]
  | .defer n => [BitVec.ofNat 16 n]
  | .done (some h) => [BitVec.ofNat 16 h]
  | .stale t q => [ticketWord t q]
  | .known h => [BitVec.ofNat 16 h]
  | .resynced n => [BitVec.ofNat 16 n]
  | .needResync k => [BitVec.ofNat 16 k.toNat]
  | .badMessage k r => [BitVec.ofNat 16 (k.toNat + 16 * r.code)]
  | .done none | .noTicket | .nothing | .unknown | .notLive => []

/-- The words of an answer in the answer queue: header, then body (R162, Table 10-11). That the header's spare
bits 1:0 are 0 is the model's choice (log entry 16). -/
def QueuedAnswer.words (q : QueuedAnswer) : List Word :=
  BitVec.ofNat 16 (2 ^ 15 + q.answer.code * 2 ^ 11 + q.tag.toNat * 2 ^ 7 + q.overrun.toNat * 2 ^ 6
    + q.answer.body.length * 4) :: q.answer.body

end Sys2Proof.Machine
end

