-- ==== Sys2Proof/Machine/Flags.lean ====
section
/-! DEFINITION. The part's output lines and status byte, each computed from its one home (R160, R162,
R173, R177), and the marks a record's fields decide: eligibility, membership of the address index. -/

namespace Sys2Proof.Machine

/-- The part is held in reset by the power-on detector or RSTn (R183). -/
def State.inReset (s : State) : Bool := s.pins.powerOn || s.pins.pin

/-- MIN_FULL: the inbound queue holds 16 messages (R160). -/
def State.minFull (s : State) : Bool := decide (Config.mediumDepth ≤ s.medium.inbound.length)

/-- MOUT_VALID: the answer queue holds at least one answer (R162). -/
def State.moutValid (s : State) : Bool := !s.medium.answers.isEmpty

/-- MOUT_D: the next unread word of the answer at the head, 0 while the queue is empty (R162). -/
def State.moutD (s : State) : Word :=
  match s.medium.answers with
  | [] => 0
  | a :: _ => a.words.getD s.medium.headRead 0

/-- The port state as the status byte reports it (R177). -/
def PortState.status : PortState → PortStatus
  | .idle => .idle
  | .working _ => .working
  | .answerReady _ => .answerReady

/-- The status byte (Table 10-3). -/
def PortStatus.byte : PortStatus → Byte
  | .idle => 0x80
  | .working => 0x81
  | .answerReady => 0x82

/-- RDY: asserted exactly while the port is ANSWER_READY (R177). -/
def State.rdy (s : State) : Bool :=
  match s.req.port with
  | .answerReady _ => true
  | _ => false

/-- A record is eligible when it is ACTIVE and its backlog is above 0 (R54, R91). -/
def Record.eligible (r : Record) : Bool := r.state == .active && decide (0 < r.backlog)

/-- A living record is ACTIVE, DOZING or BARRED: these are the records of the address index (R14). -/
def Record.living (r : Record) : Bool :=
  match r.state with
  | .active | .dozing | .barred => true
  | .retiring _ => false

/-- A ticket is ISSUED (R117). -/
def Ticket.issued (t : Ticket) : Bool := t.issue.isSome

/-- A ticket is due: ISSUED, and the time has reached its deadline (R130). -/
def Ticket.due (t : Ticket) : Bool :=
  match t.issue with
  | some i => decide (i.left ≤ 0)
  | none => false

/-- A ticket's deadline as a moment of the µs time, while it is ISSUED (R122, R130). -/
def Ticket.deadline (t : Ticket) (now : BitVec 32) : Option (BitVec 32) :=
  t.issue.map fun i => now + BitVec.ofInt 32 i.left

end Sys2Proof.Machine
end

