-- ==== Sys2Proof/Machine/Ops.lean ====
section
/-! DEFINITION. The operations over the part's state that the commands share: records, service lists,
the Table Arbiter, notices, charges, tickets, retirement, the placing of answers, and the passage of
time. A meaning is written over these. -/

namespace Sys2Proof.Machine

/-! ### Records and the address index (R1, R14, R15, R32) -/

/-- The record at a handle, none when it is FREE. -/
def State.record (s : State) (h : Nat) : Option Record := (s.records[h]?).join

/-- The record at a handle replaced; none frees it. -/
def State.putRecord (s : State) (h : Nat) (r : Option Record) : State :=
  { s with records := s.records.setIfInBounds h r }

/-- The record at a handle, when it is not FREE, changed. -/
def State.updateRecord (s : State) (h : Nat) (f : Record → Record) : State :=
  match s.record h with
  | none => s
  | some r => s.putRecord h (some (f r))

/-- Every record that is not FREE changed. -/
def State.mapRecords (s : State) (f : Record → Record) : State :=
  { s with records := s.records.map (Option.map f) }

/-- The lowest-numbered FREE handle (R1). -/
def State.lowestFree (s : State) : Option Nat := s.records.toList.findIdx? Option.isNone

/-- An index lookup: the handle of the living record whose address equals this one in all 48 bits
(R15). -/
def State.indexLookup (s : State) (a : Address) : Option Nat :=
  s.records.toList.findIdx? fun slot =>
    match slot with
    | some r => r.living && r.address == a
    | none => false

/-- The class occupancy: the records of a class that are not FREE (R32). -/
def State.occupancy (s : State) (c : Cls) : Nat :=
  s.records.toList.countP fun slot =>
    match slot with
    | some r => r.cls == c
    | none => false

/-- The settings of a class (R33). -/
def State.classSettings (s : State) (c : Cls) : ClassSettings := s.settings.classes.get c

/-- A new balance, the lowest-balance watermark following it down (R7). -/
def Record.setBalance (r : Record) (b : Int) : Record :=
  { r with balance := b, lowest := min r.lowest b }

/-- A new backlog, the highest-backlog watermark following it up (R7). -/
def Record.setBacklog (r : Record) (n : Nat) : Record :=
  { r with backlog := n, highest := max r.highest n }

/-- A balance clipped at a cap (R36, R40). -/
def Record.clip (r : Record) (cap : Nat) : Record :=
  if (cap : Int) < r.balance then r.setBalance cap else r

/-- The linger a reload gives: the override where present, the class linger reload otherwise (R4). -/
def Record.reload (r : Record) (c : ClassSettings) : Nat := r.lingerOverride.getD c.lingerReload

/-! ### Service lists (R90 to R93, R102) -/

/-- A record stands in its class's list: the listed mark (R9). -/
def State.isListed (s : State) (h : Nat) (c : Cls) : Bool := (s.lists.get c).contains h

/-- A handle joins the tail of a class's list. -/
def State.joinTail (s : State) (c : Cls) (h : Nat) : State :=
  { s with lists := s.lists.set c (s.lists.get c ++ [h]) }

/-- A handle leaves a class's list from wherever it stands, if it is there. When this leaves the
BACKGROUND list empty the background-skip counter becomes 0 (R102). -/
def State.unlist (s : State) (c : Cls) (h : Nat) : State :=
  if s.isListed h c then
    { s with
      lists := s.lists.set c ((s.lists.get c).erase h)
      skip := if c = .background ∧ (s.lists.get c).erase h = [] then 0 else s.skip }
  else s

/-- The judgement of eligibility of one record at the end of a transaction (R92). -/
def State.judge (s : State) (h : Nat) : State :=
  match s.record h with
  | none => s
  | some r =>
    if r.eligible && !s.isListed h r.cls then s.joinTail r.cls h
    else if !r.eligible then s.unlist r.cls h
    else s

/-- A visit rotates the list it is made in: the head joins the tail (R93). -/
def rotated : List Nat → List Nat
  | [] => []
  | h :: rest => rest ++ [h]

/-- A class's list rotated (R93). -/
def State.rotate (s : State) (c : Cls) : State :=
  { s with lists := s.lists.set c (rotated (s.lists.get c)) }

/-- The successor of a listed record: the next entry of its list, or itself at the tail (R9). -/
def successorIn : List Nat → Nat → Option Nat
  | [], _ => none
  | [x], h => if x = h then some h else none
  | x :: y :: rest, h => if x = h then some y else successorIn (y :: rest) h

/-! ### The Tier Table (R75) -/

/-- The tier of a rate in entries numbered from `i`: the lowest-indexed valid entry whose limit is at
least the rate, else the highest valid entry, with its index. -/
def tierFrom (rate : Nat) : Nat → List (Option TierEntry) → Option (Nat × TierEntry)
  | _, [] => none
  | _, none :: _ => none
  | i, some e :: rest =>
    if rate ≤ e.rateLimit then some (i, e)
    else match tierFrom rate (i + 1) rest with
      | some t => some t
      | none => some (i, e)

/-- The tier that applies to a rate, with its index (R75). -/
def Settings.tierOf (s : Settings) (rate : Nat) : Option (Nat × TierEntry) :=
  tierFrom rate 0 s.tiers.toList

/-- The number of valid entries (R78). -/
def Settings.validTiers (s : Settings) : Nat := s.tiers.toList.countP Option.isSome

/-- An entry of the Tier Table, none when it is invalid or there is no such entry. -/
def Settings.tier (s : Settings) (k : Nat) : Option TierEntry := (s.tiers[k]?).join

/-! ### The Table Arbiter (R17 to R19) -/

/-- A client holds work that needs the table and is not ended: it waits for the table or holds it. -/
def State.asking (s : State) : Client → Bool
  | .mediumEngine => s.medium.work.isSome
  | .requestEngine =>
    match s.req.port with
    | .working r => r.usesTable
    | _ => false
  | .ticketTimer => s.timerAsked
  | .sweeper => s.sweeper.pass.isSome

/-- The cyclic order after the client served most recently (R19). -/
def Client.after : Client → List Client
  | .mediumEngine => [.requestEngine, .ticketTimer, .sweeper, .mediumEngine]
  | .requestEngine => [.ticketTimer, .sweeper, .mediumEngine, .requestEngine]
  | .ticketTimer => [.sweeper, .mediumEngine, .requestEngine, .ticketTimer]
  | .sweeper => [.mediumEngine, .requestEngine, .ticketTimer, .sweeper]

/-- A client asks: a free table is granted to it at once, otherwise it waits (R19). Its asking itself is
the work it holds. -/
def State.ask (s : State) (c : Client) : State :=
  match s.arbiter.holder with
  | none => { s with arbiter := ⟨some c, c⟩ }
  | some _ => s

/-- The end of a transaction: the first waiting client after the client just served is granted, or the
table is free and the rotation position stays (R19). -/
def State.release (s : State) : State :=
  match s.arbiter.lastServed.after.find? s.asking with
  | some c => { s with arbiter := ⟨some c, c⟩ }
  | none => { s with arbiter := ⟨none, s.arbiter.lastServed⟩ }

/-! ### Notices (R170 to R173) -/

/-- An append to the Notice Queue with its effect on the timer and ATTN (R171, R173). -/
def NoticeQueue.append (q : NoticeQueue) (c : NoticeSettings) (n : Notice) : NoticeQueue :=
  if Config.noticeDepth ≤ q.queue.length then { q with overflow := true }
  else if q.attn then { q with queue := q.queue ++ [n] }
  else if c.coalesceCount ≤ q.queue.length + 1 then
    { q with queue := q.queue ++ [n], attn := true, timer := none }
  else if q.queue.isEmpty then
    { q with queue := q.queue ++ [n], timer := some (c.coalesceTime * 1000) }
  else { q with queue := q.queue ++ [n] }

/-- A notice made now (R170, R171). -/
def State.notify (s : State) (b : NoticeBody) : State :=
  { s with notices := s.notices.append s.settings.notice ⟨s.time.ms, b⟩ }

/-! ### Charges (R82, R143) -/

/-- A charge to a record's account (R82). -/
def Record.charge (r : Record) (amount : Nat) : Record :=
  { r.setBalance (max Config.lowestBalance (r.balance - amount)) with
    consumed := min Config.consumedMax (r.consumed + amount) }

/-- A charge counted by the Load Governor, in podium usage too when the holder is PODIUM (R143). -/
def Governor.count (g : Governor) (amount : Nat) (podium : Bool) : Governor :=
  { g with
    windowUsage := min Config.usageMax (g.windowUsage + amount)
    podiumUsage := if podium then min Config.usageMax (g.podiumUsage + amount) else g.podiumUsage }

/-- A charge made to the record at a handle and handed to the Load Governor (R82, R143). -/
def State.charge (s : State) (h amount : Nat) : State :=
  match s.record h with
  | none => s
  | some r =>
    { s.putRecord h (some (r.charge amount)) with
      gov := s.gov.count amount (r.cls == .podium) }

/-! ### Tickets (R117 to R120) -/

/-- A ticket by number; an unissued one of sequence 0 where there is no such number. -/
def State.ticket (s : State) (n : Nat) : Ticket := (s.tickets[n]?).getD ⟨0, none⟩

/-- A ticket replaced. -/
def State.putTicket (s : State) (n : Nat) (t : Ticket) : State :=
  { s with tickets := s.tickets.setIfInBounds n t }

/-- A ticket returned: FREE, its sequence kept, at the tail of the free pool (R119, R126, R131). -/
def State.returnTicket (s : State) (n : Nat) : State :=
  { s.putTicket n ⟨(s.ticket n).seq, none⟩ with pool := s.pool ++ [n] }

/-- The number of tickets ISSUED (R183). -/
def State.issuedCount (s : State) : Nat := s.tickets.toList.countP Ticket.issued

/-- Some ticket is due (R130). -/
def State.anyDue (s : State) : Bool := s.tickets.toList.any Ticket.due

/-- The due ticket of the earliest deadline, the lowest-numbered among equals, of tickets numbered from
`i` (R131). -/
def earliestDue : Nat → List Ticket → Option (Nat × Issue)
  | _, [] => none
  | i, t :: rest =>
    match t.issue, earliestDue (i + 1) rest with
    | none, best => best
    | some x, none => if x.left ≤ 0 then some (i, x) else none
    | some x, some (j, y) => if x.left ≤ 0 ∧ x.left ≤ y.left then some (i, x) else some (j, y)

/-! ### Retirement and the end of a drain (R45, R47) -/

/-- The cause of a RETIRED notice for a drain ended by completion or expiry (R47). -/
def DrainCause.noticeCause : DrainCause → RetiredCause
  | .host => .host
  | .aged => .aged

/-- A retirement: the record leaves its list and the index, and is freed or begins its drain (R45). -/
def State.retire (s : State) (h : Nat) (cause : DrainCause) : State :=
  match s.record h with
  | none => s
  | some r =>
    (s.unlist r.cls h).putRecord h
      (if r.held = 0 then none else some { r with state := .retiring cause })

/-- The end of a drain, when the RETIRING record's last ticket has come back: the record becomes FREE and
a RETIRED notice is made (R47). -/
def State.endDrain (s : State) (h : Nat) : State :=
  match s.record h with
  | none => s
  | some r =>
    match r.state with
    | .retiring cause =>
      if r.held = 0 then
        (s.putRecord h none).notify (.retired h r.address r.label r.consumed cause.noticeCause)
      else s
    | _ => s

/-! ### The Stranger Filter (R57) -/

/-- An address appended to the filter, the oldest removed first when it holds 8 (R57). -/
def filterAppend (f : List Address) (a : Address) : List Address :=
  if Config.filterDepth ≤ f.length then f.drop 1 ++ [a] else f ++ [a]

/-! ### Answers (R161, R163, R179) -/

/-- An answer placed at the tail of the answer queue, with the overrun flag of the overrun mark, which it
clears; the engine holds no message any more (R161, R163). -/
def State.placeAnswer (s : State) (tag : BitVec 4) (a : MediumAnswer) : State :=
  { s with medium := { s.medium with
      answers := s.medium.answers ++ [⟨tag, s.medium.overrun, a⟩]
      overrun := false
      work := none } }

/-- The end of a Medium Engine transaction: the answer is its last act (R168). -/
def State.endMedium (s : State) (tag : BitVec 4) (a : MediumAnswer) : State :=
  (s.placeAnswer tag a).release

/-- An answer placed in the answer buffer: the port becomes ANSWER_READY (R179). -/
def State.hostAnswer (s : State) (a : HostAnswer) : State :=
  { s with req := { s.req with port := .answerReady a } }

/-- The end of a Request Engine transaction: the answer is its last act (R179). -/
def State.endHost (s : State) (a : HostAnswer) : State := (s.hostAnswer a).release

/-! ### When a command's step can happen -/

/-- What every command answers with: a next state. -/
abbrev Result := Host.Outcome State Fault Refusal

/-- Nothing happens while the part is held in reset (R20, R158, R162). -/
def State.unlessReset (s : State) (f : State → State) : Result :=
  .next (if s.inReset then s else f s)

/-- A step of the Medium Engine's transaction: it happens when the engine holds the table and holds a
message whose step it is; otherwise the work is not begun (R17, R168). -/
def State.inMediumTransaction (s : State) (f : Message → Option State) : Result :=
  s.unlessReset fun s =>
    match s.arbiter.holder, s.medium.work with
    | some .mediumEngine, some m => (f m).getD s
    | _, _ => s

/-- A step of the Request Engine's transaction: it happens when the engine holds the table and executes a
request whose step it is; otherwise the work is not begun (R17, R179). -/
def State.inHostTransaction (s : State) (f : Request → Option State) : Result :=
  s.unlessReset fun s =>
    match s.arbiter.holder, s.req.port with
    | some .requestEngine, .working r => (f r).getD s
    | _, _ => s

/-- The step of a request that takes no transaction: it happens when the engine executes that request
(R17, R179). -/
def State.inHostRequest (s : State) (f : Request → Option State) : Result :=
  s.unlessReset fun s =>
    match s.req.port with
    | .working r => (f r).getD s
    | _ => s

/-! ### The passage of time -/

/-- Time passes for an ISSUED ticket: its deadline comes nearer (R130). -/
def Ticket.after (t : Ticket) (dt : Nat) : Ticket :=
  { t with issue := t.issue.map fun i => { i with left := i.left - dt } }

/-- `dt` µs pass: both times run on and wrap (R130, R170), the hold counter falls and stops at 0 (R154),
and every running timer comes nearer to its expiry (R63, R142, R173). -/
def State.passTime (s : State) (dt : Nat) : State :=
  { s with
    time :=
      { us := s.time.us + BitVec.ofNat 32 dt
        ms := s.time.ms + BitVec.ofNat 32 ((s.time.frac + dt) / 1000)
        frac := (s.time.frac + dt) % 1000 }
    gov := { s.gov with
      windowLeft := s.gov.windowLeft - dt
      hold := s.gov.hold - dt }
    sweeper := { s.sweeper with periodLeft := s.sweeper.periodLeft - dt }
    notices := { s.notices with timer := s.notices.timer.map (· - dt) }
    tickets := s.tickets.map (Ticket.after · dt) }

end Sys2Proof.Machine
end

