-- ==== Sys2Proof/Machine/Lifecycle.lean ====
section
/-! DEFINITION. The host-driven lifecycle of a record and the class settings (spec 02): ADMIT, AMEND,
RETIRE and SET_CLASS. -/

namespace Sys2Proof.Machine

/-! ### ADMIT -/

/-- A record at admission (R29, Table 2-3). -/
def Admission.newRecord (a : Admission) (c : ClassSettings) : Record where
  state := .active
  address := a.address
  cls := a.cls
  weight := a.weight
  label := a.label
  lingerOverride := a.lingerOverride
  burstOverride := a.burstOverride
  psMark := .awake
  aged := false
  rate := 0
  balance := c.initialBalance
  backlog := 0
  held := 0
  linger := a.lingerOverride.getD c.lingerReload
  consumed := 0
  grantCount := 0
  lowest := c.initialBalance
  highest := 0

/-- The answer to an ADMIT and the state it leaves (R28 to R30): the checks of Table 2-2 in order, then the
record at the lowest FREE handle and the address out of the Stranger Filter. -/
def State.admitTo (s : State) (a : Admission) : State × HostAnswer :=
  match s.indexLookup a.address with
  | some h => (s, .duplicate h)
  | none =>
    if (s.classSettings a.cls).capacity ≤ s.occupancy a.cls then (s, .classFull)
    else
      match s.lowestFree with
      | none => (s, .tableFull)
      | some h =>
        ({ s.putRecord h (some (a.newRecord (s.classSettings a.cls))) with
            strangers := s.strangers.erase a.address }, .admitted h)

/-- ADMIT (R28). -/
def execAdmit (s : State) : Result :=
  s.inHostTransaction fun r =>
    match r with
    | .admitStation a => some ((s.admitTo a).1.endHost (s.admitTo a).2)
    | _ => none

/-! ### AMEND -/

/-- A class item (R40): naming another class, it moves the record out of its list and into the class, its
balance clipped; naming the record's own class, it changes nothing. -/
def State.changeClass (s : State) (h : Nat) (c : Cls) : State :=
  match s.record h with
  | none => s
  | some r =>
    if c = r.cls then s
    else (s.unlist r.cls h).putRecord h
      (some ({ r with cls := c }.clip (s.classSettings c).balanceCap))

/-- A barred item (R42). -/
def RecordState.amendBarred (st : RecordState) (on : Bool) (p : PsMark) : RecordState :=
  match st, on, p with
  | .active, true, _ => .barred
  | .dozing, true, _ => .barred
  | .barred, false, .awake => .active
  | .barred, false, .asleep => .dozing
  | st, _, _ => st

/-- A barred item, where it is present (R42). -/
def RecordState.amendBarredBy (st : RecordState) (on : Option Bool) (p : PsMark) : RecordState :=
  match on with
  | none => st
  | some b => st.amendBarred b p

/-- The weight, label, override and barred items (R43, R42). -/
def Record.amendFields (r : Record) (a : Amendment) : Record :=
  { r with
    weight := a.weight.getD r.weight
    label := a.label.getD r.label
    lingerOverride := a.lingerOverride.getD r.lingerOverride
    burstOverride := a.burstOverride.getD r.burstOverride
    state := r.state.amendBarredBy a.barred r.psMark }

/-- Balance to initial, where the item is present (R41). -/
def Record.amendBalance (r : Record) (c : ClassSettings) (present : Bool) : Record :=
  if present then r.setBalance c.initialBalance else r

/-- The class item, where it is present. -/
def State.changeClassBy (s : State) (h : Nat) : Option Cls → State
  | none => s
  | some c => s.changeClass h c

/-- Every item of an AMEND in the order of R39, and the one judgement of eligibility. -/
def State.applyAmendment (s : State) (h : Nat) (a : Amendment) : State :=
  ((s.changeClassBy h a.cls).updateRecord h fun r =>
    (r.amendBalance (s.classSettings r.cls) a.toInitial).amendFields a).judge h

/-- The class item names another class whose occupancy is at its capacity (R39). -/
def State.classItemFull (s : State) (r : Record) : Option Cls → Bool
  | none => false
  | some c => decide (c ≠ r.cls) && decide ((s.classSettings c).capacity ≤ s.occupancy c)

/-- The answer to an AMEND and the state it leaves (R39). -/
def State.amended (s : State) (h : Nat) (a : Amendment) : State × HostAnswer :=
  match s.record h with
  | none => (s, .notLive)
  | some r =>
    if !r.living then (s, .notLive)
    else if s.classItemFull r a.cls then (s, .classFull)
    else (s.applyAmendment h a, .done)

/-- AMEND (R39). -/
def execAmend (s : State) : Result :=
  s.inHostTransaction fun r =>
    match r with
    | .amend h a => some ((s.amended h a).1.endHost (s.amended h a).2)
    | _ => none

/-! ### RETIRE -/

/-- The answer to a RETIRE and the state it leaves (R46). -/
def State.retired (s : State) (h : Nat) : State × HostAnswer :=
  match s.record h with
  | none => (s, .notLive)
  | some r =>
    if !r.living then (s, .alreadyRetiring r.held)
    else if r.held = 0 then (s.retire h .host, .freed h r.address r.label r.consumed)
    else (s.retire h .host, .draining h r.held)

/-- RETIRE (R46). -/
def execRetire (s : State) : Result :=
  s.inHostTransaction fun r =>
    match r with
    | .retire h => some ((s.retired h).1.endHost (s.retired h).2)
    | _ => none

/-! ### SET_CLASS -/

/-- Every record of a class clipped at a cap (R36). -/
def State.clipClass (s : State) (c : Cls) (cap : Nat) : State :=
  s.mapRecords fun r => if r.cls = c then r.clip cap else r

/-- The items of an accepted SET_CLASS applied, and the clip of a lowered balance cap (R35, R36). -/
def State.applyClass (s : State) (c : Cls) (i : ClassItems) : State :=
  let after := i.apply (s.classSettings c)
  let set := { s with settings := { s.settings with
    classes := s.settings.classes.set c after } }
  if after.balanceCap < (s.classSettings c).balanceCap then set.clipClass c after.balanceCap else set

/-- The answer to a SET_CLASS and the state it leaves (R35): IN_USE for a capacity item below the
occupancy. -/
def State.classSet (s : State) (c : Cls) (i : ClassItems) : State × HostAnswer :=
  if (i.apply (s.classSettings c)).capacity < s.occupancy c ∧ i.capacity.isSome then
    (s, .inUse (s.occupancy c))
  else (s.applyClass c i, .done)

/-- SET_CLASS (R35). -/
def execSetClass (s : State) : Result :=
  s.inHostTransaction fun r =>
    match r with
    | .setClass c i => some ((s.classSet c i).1.endHost (s.classSet c i).2)
    | _ => none

end Sys2Proof.Machine
end

