-- ==== Sys2Proof/Machine/MediumPort.lean ====
section
/-! DEFINITION. The Medium Port (spec 08): words become messages, messages are taken and checked, and
answer words are read. -/

namespace Sys2Proof.Machine

/-- A message arrives: it joins the inbound queue's tail, or is discarded with the overrun mark set when
the queue holds 16 (R160). -/
def MediumPort.arrive (p : MediumPort) (m : RawMessage) : MediumPort :=
  if Config.mediumDepth ≤ p.inbound.length then { p with overrun := true }
  else { p with inbound := p.inbound ++ [m] }

/-- A header word: a message still in assembly arrives cut short, and a new assembly starts, which
arrives at once when it declares no body word (R158, R159). -/
def MediumPort.writeHeader (p : MediumPort) (w : Word) : MediumPort :=
  let cut := match p.assembly with
    | some m => p.arrive m
    | none => p
  if declaredWords w = 0 then { cut.arrive ⟨w, []⟩ with assembly := none }
  else { cut with assembly := some ⟨w, []⟩ }

/-- A body word: added to the assembly, whose message arrives when it holds as many body words as its
header declared, or discarded with the overrun mark set when there is no assembly (R158, R159). -/
def MediumPort.writeBody (p : MediumPort) (w : Word) : MediumPort :=
  match p.assembly with
  | none => { p with overrun := true }
  | some m =>
    let grown : RawMessage := { m with body := m.body ++ [w] }
    if declaredWords m.header ≤ grown.body.length then
      { p.arrive grown with assembly := none }
    else { p with assembly := some grown }

/-- A strobe of MIN_WR with a word on MIN_D (R158). -/
def MediumPort.writeWord (p : MediumPort) (w : Word) : MediumPort :=
  if startMark w then p.writeHeader w else p.writeBody w

/-- A strobe of MIN_WR: what it does follows from the word and the assembly (log entry 6). -/
def State.writeWord (s : State) (w : Word) : State :=
  { s with medium := s.medium.writeWord w }

/-- MESSAGE_ARRIVAL (R160): the strobe by which a message arrives. -/
def execMessageArrival (w : Word) (s : State) : Result := s.unlessReset (·.writeWord w)

/-- STRAY_BODY_WORD (R159): the strobe of a body word outside any assembly. -/
def execStrayBodyWord (w : Word) (s : State) : Result := s.unlessReset (·.writeWord w)

/-- ASSEMBLY_WORD (R158): the strobe that starts or goes on with an assembly. -/
def execAssemblyWord (w : Word) (s : State) : Result := s.unlessReset (·.writeWord w)

/-- A strobe of MOUT_RD (R162): the presented word is taken, and the strobe that takes the last word of
the head answer removes it. A strobe while the queue is empty is not taken. -/
def MediumPort.readWord (p : MediumPort) : MediumPort :=
  match p.answers with
  | [] => p
  | a :: rest =>
    if a.words.length ≤ p.headRead + 1 then { p with answers := rest, headRead := 0 }
    else { p with headRead := p.headRead + 1 }

/-- ANSWER_WORD_READ (R162). -/
def execAnswerWordRead (s : State) : Result :=
  s.unlessReset fun s => { s with medium := s.medium.readWord }

/-- The kind code of RESYNC (R187). -/
def resyncKind : BitVec 4 := 6

/-- A message just taken off the inbound queue: answered NEED_RESYNC by R165 or BAD_MESSAGE by R166, a
QUIET worked at once (R155), or held while the engine asks for the table (R168). -/
def State.workMessage (s : State) (m : RawMessage) : State :=
  if s.medium.engine = .awaitResync ∧ m.kind ≠ resyncKind then
    s.placeAnswer m.tag (.needResync m.kind)
  else
    match m.check with
    | .error reason => s.placeAnswer m.tag (.badMessage m.kind reason)
    | .ok (.quiet d) => { s with gov := { s.gov with hold := d } }.placeAnswer m.tag (.done none)
    | .ok b =>
      { s with medium := { s.medium with work := some ⟨m.tag, b⟩ } }.ask .mediumEngine

/-- The Medium Engine can take a message: it works on none, the answer queue holds fewer than 16, and a
message waits (R163). -/
def State.canTake (s : State) : Bool :=
  s.medium.work.isNone && decide (s.medium.answers.length < Config.mediumDepth)
    && !s.medium.inbound.isEmpty

/-- MESSAGE_TAKE (R163): the head message is taken when the engine can take one. -/
def execMessageTake (s : State) : Result :=
  s.unlessReset fun s =>
    if s.canTake then
      match s.medium.inbound with
      | [] => s
      | m :: rest => { s with medium := { s.medium with inbound := rest } }.workMessage m
    else s

end Sys2Proof.Machine
end

