-- ==== Sys2Proof/Machine/MediumWork.lean ====
section
/-! DEFINITION. The Medium Engine's transactions: OPPORTUNITY (spec 05), COMPLETE and RESYNC (spec 06),
HEARD and DEMAND (spec 03). Each is worked from the message the engine holds, when the engine holds the
table. -/

namespace Sys2Proof.Machine

/-! ### OPPORTUNITY -/

/-- What the Grant Scheduler reads of the Load Governor at the moment its transaction is granted (R95). -/
structure Readings where
  crowded : Bool
  podiumUsage : Nat
  window : Nat
deriving DecidableEq, Repr

/-- The readings of an OPPORTUNITY (R95), as they stand at its command (log entry 13). -/
def State.readings (s : State) : Readings :=
  ⟨s.gov.load == .crowded, s.gov.podiumUsage, s.settings.governor.window⟩

/-- The podium cap is reached (R97): the share is below 100 and the usage read is at least the share of
the window. -/
def State.podiumCapped (s : State) (rd : Readings) : Bool :=
  decide (s.settings.scheduler.podiumShare < 100)
    && decide (s.settings.scheduler.podiumShare * rd.window * 10 ≤ rd.podiumUsage)

/-- BACKGROUND is promoted (R98). -/
def State.promoted (s : State) (rd : Readings) : Bool :=
  decide (s.settings.scheduler.backgroundInterval ≤ s.skip) && !s.lists.background.isEmpty
    && !rd.crowded

/-- The class order (R97 to R99, Table 5-3). -/
def State.classOrder (s : State) (rd : Readings) : List Cls :=
  let front : List Cls := if s.podiumCapped rd then [.seat, .podium] else [.podium, .seat]
  if rd.crowded then front
  else if s.promoted rd then .background :: front
  else front ++ [.background]

/-- The three kinds of visit (R104). -/
inductive Visit where
  | capped
  | topUp
  | grant
deriving DecidableEq, Repr

/-- The kind of a visit to a record (Table 5-4). -/
def State.visitKind (s : State) (r : Record) : Visit :=
  if (s.classSettings r.cls).ticketCap ≤ r.held then .capped
  else if r.balance ≤ 0 then .topUp
  else .grant

/-- A top-up: tier quantum × weight, clipped at the class balance cap (R81). -/
def State.toppedUp (s : State) (r : Record) : Record :=
  match s.settings.tierOf r.rate with
  | none => r
  | some (_, e) =>
    { r with
      balance := min (r.balance + e.quantum * r.weight) (s.classSettings r.cls).balanceCap }

/-- A present offered duration or override bounds a limit; an absent one does not. -/
def boundBy (limit : Nat) (bound : Option Nat) : Nat :=
  match bound with
  | some b => min limit b
  | none => limit

/-- An offered duration of 0 is absent (R94). -/
def offeredBound (offered : Nat) : Option Nat := if offered = 0 then none else some offered

/-- The airtime limit of a grant (R110). -/
def grantLimit (r : Record) (e : TierEntry) (crowded : Bool) (offered : Nat) : Nat :=
  boundBy
    (boundBy (min r.balance.toNat (if crowded then e.crowdedBurstCap else e.burstCap))
      r.burstOverride)
    (offeredBound offered)

/-- The background-skip counter after a grant to a record of a class (R101). -/
def State.skipAfterGrant (s : State) (c : Cls) : Nat :=
  if c = .background then 0
  else if s.lists.background.isEmpty then s.skip
  else min Config.skipMax (s.skip + 1)

/-- The grant of ticket `t` to the record at a handle with a limit (R109): the ticket is issued, tickets
held and the grant count rise, and the background-skip counter changes. -/
def State.issueTo (s : State) (t h : Nat) (r : Record) (limit : Nat) : State :=
  { (s.putTicket t
      ⟨(s.ticket t).seq + 1, some ⟨h, limit, (s.settings.scheduler.ticketLifetime * 1000 : Nat)⟩⟩).putRecord h
        (some { r with held := r.held + 1, grantCount := min Config.grantCountMax (r.grantCount + 1) }) with
    pool := s.pool.drop 1
    skip := s.skipAfterGrant r.cls }

/-- What a turn of visits leaves: the state, the visits made, and the answer when a grant ended it. -/
structure Turn where
  state : State
  visits : Nat
  answer : Option MediumAnswer

/-- One more visit before a turn. -/
def Turn.more (t : Turn) : Turn := { t with visits := t.visits + 1 }

/-- The grant visit, in the list of class `c`, to the record at a handle (R104, R109 to R113): it issues the
head ticket of the free pool and ends the OPPORTUNITY. With an empty pool, which R96 rules out, or no valid
tier, which R74 rules out, nothing is granted. -/
def State.grantVisit (s : State) (rd : Readings) (offered : Nat) (c : Cls) (h : Nat) (r : Record) :
    Option (State × MediumAnswer) :=
  match s.pool, s.settings.tierOf r.rate with
  | t :: _, some (_, e) =>
    let limit := grantLimit r e rd.crowded offered
    some ((s.issueTo t h r limit).rotate c,
      .grant t ((s.ticket t).seq + 1) h r.address limit (min e.frameCap r.backlog))
  | _, _ => none

/-- The visits of one class's turn, at most `n` of them (R103, R104). Every visit rotates the list. -/
def State.turn (rd : Readings) (offered : Nat) (c : Cls) : Nat → State → Turn
  | 0, s => ⟨s, 0, none⟩
  | n + 1, s =>
    match s.lists.get c with
    | [] => ⟨s, 0, none⟩
    | h :: _ =>
      match s.record h with
      | none => (State.turn rd offered c n (s.rotate c)).more
      | some r =>
        match s.visitKind r with
        | .capped => (State.turn rd offered c n (s.rotate c)).more
        | .topUp =>
          (State.turn rd offered c n ((s.putRecord h (some (s.toppedUp r))).rotate c)).more
        | .grant =>
          match s.grantVisit rd offered c h r with
          | some (s', a) => ⟨s', 1, some a⟩
          | none => (State.turn rd offered c n (s.rotate c)).more

/-- The classes of the class order, one after another, each with a visit limit of twice its list's length
at the start of its turn, within the budget of 64 visits (R103, R107). -/
def State.walk (rd : Readings) (offered : Nat) : List Cls → Nat → State → Turn
  | [], made, s => ⟨s, made, none⟩
  | c :: rest, made, s =>
    let t := State.turn rd offered c
      (min (2 * (s.lists.get c).length) (Config.visitBudget - made)) s
    match t.answer with
    | some a => ⟨t.state, made + t.visits, some a⟩
    | none => State.walk rd offered rest (made + t.visits) t.state

/-- The answer to an OPPORTUNITY that passes the checks of R95 (R108, R113). -/
def Turn.finalAnswer (t : Turn) : MediumAnswer :=
  match t.answer with
  | some a => a
  | none => if t.visits = 0 then .nothing else .defer t.visits

/-- The answer to an OPPORTUNITY and the state its visits leave (R95, R96). R95 and R149 take the readings at
the moment the transaction is granted. The model lets the grant and the transaction's work be one moment,
that of the command OPPORTUNITY, so a window end, a SET_GOVERNOR or a load of the hold counter worked after
the table came to the Medium Engine and before this command falls before the reading (the model's choice,
log entry 13). -/
def State.serve (s : State) (offered : Nat) : State × MediumAnswer :=
  if 0 < s.gov.hold then (s, .hold s.gov.hold)
  else if s.pool = [] then (s, .noTicket)
  else
    let t := State.walk s.readings offered (s.classOrder s.readings) 0 s
    (t.state, t.finalAnswer)

/-- OPPORTUNITY (R95). -/
def execOpportunity (s : State) : Result :=
  s.inMediumTransaction fun m =>
    match m.body with
    | .opportunity offered => some ((s.serve offered).1.endMedium m.tag (s.serve offered).2)
    | _ => none

/-! ### COMPLETE -/

/-- The holder's record after an accepted completion, its charge apart (R126, R127). -/
def Record.afterCompletion (r : Record) (c : Completion) : Record :=
  let r := { r with held := r.held - 1, rate := c.rate.getD r.rate }
  r.setBacklog (c.backlog.getD (r.backlog - c.acked))

/-- The effects of a COMPLETE answered DONE (R126 to R128): the ticket returned, the holder charged and
updated, its eligibility judged, and a drain ended. -/
def State.acceptCompletion (s : State) (c : Completion) (holder : Nat) : State :=
  ((((s.returnTicket c.ticket).charge holder c.used).updateRecord holder
    (·.afterCompletion c)).judge holder).endDrain holder

/-- The answer to a COMPLETE and the state it leaves: STALE when the ticket is FREE or of another sequence
(R124, R125), else DONE. -/
def State.completed (s : State) (c : Completion) : State × MediumAnswer :=
  match (s.ticket c.ticket).issue with
  | none => (s, .stale c.ticket (s.ticket c.ticket).seq)
  | some i =>
    if (s.ticket c.ticket).seq = c.seq then (s.acceptCompletion c i.holder, .done (some i.holder))
    else (s, .stale c.ticket (s.ticket c.ticket).seq)

/-- COMPLETE (R124). -/
def execComplete (s : State) : Result :=
  s.inMediumTransaction fun m =>
    match m.body with
    | .complete c => some ((s.completed c).1.endMedium m.tag (s.completed c).2)
    | _ => none

/-! ### HEARD -/

/-- The state after a HEARD of a known address (Table 3-2). -/
def RecordState.afterHeard (st : RecordState) (p : PsMark) : RecordState :=
  match st, p with
  | .active, .asleep => .dozing
  | .dozing, .awake => .active
  | st, _ => st

/-- A record after a HEARD of its address (R52, R53). -/
def Record.afterHeard (r : Record) (c : ClassSettings) (h : Hearing) : Record :=
  { r with
    linger := r.reload c
    aged := false
    rate := h.rate.getD r.rate
    psMark := h.psMark
    state := r.state.afterHeard h.psMark }

/-- The stranger switch of a frame kind (R56). -/
def PresenceSettings.switchOf (p : PresenceSettings) : FrameKind → Bool
  | .mgmt => p.mgmtSwitch
  | .data => p.dataSwitch
  | .ctrl => p.ctrlSwitch

/-- A HEARD of an unknown address (R56, R57): a STRANGER notice, and the address appended to the filter,
when its switch is ON and the filter does not hold it. -/
def State.strangerHeard (s : State) (h : Hearing) : State :=
  if s.settings.presence.switchOf h.kind && !s.strangers.contains h.address then
    { s with strangers := filterAppend s.strangers h.address }.notify
      (.stranger h.address h.kind h.rate)
  else s

/-- The answer to a HEARD and the state it leaves (R51, R52, R56). -/
def State.hear (s : State) (h : Hearing) : State × MediumAnswer :=
  match s.indexLookup h.address with
  | none => (s.strangerHeard h, .unknown)
  | some n =>
    ((s.updateRecord n fun r => r.afterHeard (s.classSettings r.cls) h).judge n, .known n)

/-- HEARD (R51). -/
def execHeard (s : State) : Result :=
  s.inMediumTransaction fun m =>
    match m.body with
    | .heard h => some ((s.hear h).1.endMedium m.tag (s.hear h).2)
    | _ => none

/-! ### DEMAND -/

/-- The answer to a DEMAND and the state it leaves (R60, R61). -/
def State.demanded (s : State) (h n : Nat) : State × MediumAnswer :=
  match s.record h with
  | none => (s, .notLive)
  | some r =>
    if r.living then ((s.putRecord h (some (r.setBacklog n))).judge h, .done none)
    else (s, .notLive)

/-- DEMAND (R60). -/
def execDemand (s : State) : Result :=
  s.inMediumTransaction fun m =>
    match m.body with
    | .demand h n => some ((s.demanded h n).1.endMedium m.tag (s.demanded h n).2)
    | _ => none

/-! ### RESYNC -/

/-- The ISSUED tickets in ascending number (R137). -/
def State.issuedTickets (s : State) : List Nat :=
  (List.range Config.tickets).filter fun n => (s.ticket n).issued

/-- A record is RETIRING. -/
def Record.isRetiring (r : Record) : Bool := !r.living

/-- The RETIRED notices of the RETIRING records, in ascending handle order, with cause RESYNC (R138), for
slots numbered from `i`. -/
def resyncNotices : Nat → List (Option Record) → List NoticeBody
  | _, [] => []
  | i, none :: rest => resyncNotices (i + 1) rest
  | i, some r :: rest =>
    if r.isRetiring then
      .retired i r.address r.label r.consumed .resync :: resyncNotices (i + 1) rest
    else resyncNotices (i + 1) rest

/-- A slot after a RESYNC: tickets held 0, and a RETIRING record FREE (R137). -/
def slotAfterResync : Option Record → Option Record
  | none => none
  | some r => if r.isRetiring then none else some { r with held := 0 }

/-- Every ISSUED ticket returned without charge, in ascending number, behind the pool (R137). -/
def State.returnAll (s : State) : State :=
  { s with
    tickets := s.tickets.map fun t => { t with issue := none }
    pool := s.pool ++ s.issuedTickets }

/-- Notices made one after another. -/
def State.notifyAll (s : State) (bodies : List NoticeBody) : State := bodies.foldl State.notify s

/-- The effects of a RESYNC (R137, R138). -/
def State.resynced (s : State) : State :=
  let freed := { s.returnAll with records := s.records.map slotAfterResync }
  let noted := freed.notifyAll (resyncNotices 0 s.records.toList)
  { noted with
    gov := { noted.gov with hold := 0 }
    medium := { noted.medium with engine := .running } }

/-- RESYNC (R136). -/
def execResync (s : State) : Result :=
  s.inMediumTransaction fun m =>
    match m.body with
    | .resync => some (s.resynced.endMedium m.tag (.resynced s.issuedTickets.length))
    | _ => none

end Sys2Proof.Machine
end

