-- ==== Sys2Proof/Machine/Readings.lean ====
section
/-! DEFINITION. The requests that read the part: IDENTIFY, LOOKUP, READ_RECORD, LIST, READ_TICKETS,
READ_SETTINGS, READ_GOVERNOR and FETCH_NOTICES. -/

namespace Sys2Proof.Machine

/-- IDENTIFY (R183): the part code, revision and counts, fixed in the answer's layout, and the reset cause
record as it stands. -/
def execIdentify (s : State) : Result :=
  s.inHostRequest fun r =>
    match r with
    | .identify => some (s.hostAnswer (.identity s.resetRecord))
    | _ => none

/-- The answer to a LOOKUP (R16). -/
def State.lookedUp (s : State) (a : Address) : HostAnswer :=
  match s.indexLookup a with
  | some h => .known h
  | none => .unknown

/-- LOOKUP (R16). -/
def execLookup (s : State) : Result :=
  s.inHostTransaction fun r =>
    match r with
    | .lookup a => some (s.endHost (s.lookedUp a))
    | _ => none

/-- The record image (R21, R9, R22): the record's fields with its tier, listed mark and successor. -/
def State.image (s : State) (h : Nat) (r : Record) : RecordImage where
  handle := h
  record := r
  tier := match s.settings.tierOf r.rate with
    | some (k, _) => k
    | none => 0
  listed := s.isListed h r.cls
  successor := successorIn (s.lists.get r.cls) h

/-- The watermarks cleared: set to the current values (R24). -/
def Record.clearMarks (r : Record) : Record := { r with lowest := r.balance, highest := r.backlog }

/-- The answer to a READ_RECORD and the state it leaves (R21, R24): the image is taken before the clear. -/
def State.readOut (s : State) (h : Nat) (clear : Bool) : State × HostAnswer :=
  match s.record h with
  | none => (s, .free h)
  | some r =>
    (if clear then s.putRecord h (some r.clearMarks) else s, .record (s.image h r))

/-- READ_RECORD (R21). -/
def execReadRecord (s : State) : Result :=
  s.inHostTransaction fun r =>
    match r with
    | .readRecord h clear => some ((s.readOut h clear).1.endHost (s.readOut h clear).2)
    | _ => none

/-- The answer to a LIST (R26). -/
def State.listing (s : State) (c : Cls) (start count : Nat) : HostAnswer :=
  .listed c (s.lists.get c).length start (((s.lists.get c).drop start).take count)

/-- LIST (R26). -/
def execList (s : State) : Result :=
  s.inHostTransaction fun r =>
    match r with
    | .list c start count => some (s.endHost (s.listing c start count))
    | _ => none

/-- What READ_TICKETS reports of a ticket: the remaining time is 0 once the deadline has been reached
(R140, R141). -/
def Ticket.view (t : Ticket) : TicketView :=
  ⟨t.seq, t.issue.map fun i => ⟨i.holder, i.limit, i.left.toNat⟩⟩

/-- READ_TICKETS (R140). -/
def execReadTickets (s : State) : Result :=
  s.inHostTransaction fun r =>
    match r with
    | .readTickets => some (s.endHost (.tickets (s.tickets.toList.map Ticket.view) s.pool))
    | _ => none

/-- The contents of a settings group, all of one moment (R182, Table 10-9). -/
def State.groupContents (s : State) : Group → GroupContents
  | .classes => .classes s.settings.classes
      ⟨s.occupancy .podium, s.occupancy .seat, s.occupancy .background⟩
  | .tiers => .tiers s.settings.tiers
  | .scheduler => .scheduler s.settings.scheduler s.skip
  | .presence => .presence s.settings.presence
  | .governor => .governor s.settings.governor
  | .notice => .notice s.settings.notice

/-- READ_SETTINGS (R182): in a transaction for the groups that are table state, without one for the
others. -/
def execReadSettings (s : State) : Result :=
  s.inHostRequest fun r =>
    match r with
    | .readSettings g =>
      if g.usesTable then
        if s.arbiter.holder = some .requestEngine then
          some (s.endHost (.settings (s.groupContents g)))
        else none
      else some (s.hostAnswer (.settings (s.groupContents g)))
    | _ => none

/-- The answer to a READ_GOVERNOR (R150). -/
def State.governorAnswer (s : State) : HostAnswer :=
  .governorState s.gov.load s.gov.countdown s.gov.windowUsage s.gov.podiumUsage
    s.gov.lastUtilization s.gov.busiest s.gov.hold

/-- READ_GOVERNOR (R150): the busiest mark is cleared after it has been read. -/
def execReadGovernor (s : State) : Result :=
  s.inHostRequest fun r =>
    match r with
    | .readGovernor clear =>
      some ({ s with gov := { s.gov with busiest := if clear then 0 else s.gov.busiest } }.hostAnswer
        s.governorAnswer)
    | _ => none

/-- The Notice Queue after the removal of its `n` oldest notices, its mark cleared, with ATTN and the timer
set from the number left (R172, R174). -/
def NoticeQueue.fetched (q : NoticeQueue) (c : NoticeSettings) (n : Nat) : NoticeQueue :=
  let left := q.queue.drop n
  { queue := left
    overflow := false
    attn := decide (c.coalesceCount ≤ left.length) && !left.isEmpty
    timer := if left.isEmpty || decide (c.coalesceCount ≤ left.length) then none
      else some (c.coalesceTime * 1000) }

/-- FETCH_NOTICES (R172). -/
def execFetchNotices (s : State) : Result :=
  s.inHostRequest fun r =>
    match r with
    | .fetchNotices n =>
      some ({ s with notices := s.notices.fetched s.settings.notice n }.hostAnswer
        (.notices s.notices.overflow (s.notices.queue.take n) (s.notices.queue.drop n).length))
    | _ => none

end Sys2Proof.Machine
end

