-- ==== Sys2Proof/Machine/RequestPort.lean ====
section
/-! DEFINITION. The Request Port (spec 10): SPI transactions, the judging of request frames, the answer
buffer, and the port's footing on the link after a hard reset. -/

namespace Sys2Proof.Machine

/-- CSn falls: the port state is latched for the whole transaction (R177). Before CSn has been seen high
after a hard reset the part ignores the link (R181); a second fall without a rise changes nothing (log
entry 10). -/
def RequestPort.fall (p : RequestPort) : RequestPort :=
  match p.csnSeen, p.csn with
  | true, none => { p with csn := some p.port.status }
  | _, _ => p

/-- CSn rises: seen high, with these bytes clocked out (R181). -/
def RequestPort.rise (p : RequestPort) (miso : List Byte) : RequestPort :=
  { p with csn := none, csnSeen := true, miso := miso }

/-- An SPI transaction, or the fall that begins it. The rise that ends a transaction judges it by the
latched state; a rise with nothing latched ends a transaction that spanned a hard reset, which has no
effect (R181). A rise that ends no transaction, nothing latched on a link already followed, is worked in
the same way (log entry 10), and the record of MISO is then empty (log entry 8). -/
def State.spi (s : State) (span : SpiSpan) (f : PortStatus → State → State) : State :=
  let fallen := if span = .rise then s else { s with req := s.req.fall }
  if span = .fall then fallen
  else
    match fallen.req.csn with
    | none => { fallen with req := fallen.req.rise [] }
    | some latched => f latched fallen

/-- A request frame is malformed (R178): its length is above 160, the bytes that follow the length are
fewer or more than the body and check byte, or the check byte is not the CRC-8. -/
def frameMalformed (code len : Byte) (rest : List Byte) : Bool :=
  decide (Config.bodyMax < len.toNat) || rest.length != len.toNat + 1
    || rest.getLast? != some (crc8 (code :: len :: rest.dropLast))

/-- A request frame judged by an IDLE port when CSn rises (R178, R179). -/
def State.takeFrame (s : State) (bytes : List Byte) : State :=
  match bytes with
  | code :: len :: rest =>
    if frameMalformed code len rest then s.hostAnswer .checkFailed
    else
      match parseRequest s.settings code.toNat rest.dropLast with
      | none => s.hostAnswer .unknownRequest
      | some none => s.hostAnswer .badField
      | some (some r) =>
        let working := { s with req := { s.req with port := .working r } }
        if r.usesTable then working.ask .requestEngine else working
  | _ => s

/-- SUBMIT (R178). An incomplete last byte counts as not received, so its bits do nothing. -/
def execSubmit (span : SpiSpan) (bytes : List Byte) (_tailBits : Nat) (s : State) : Result :=
  s.unlessReset fun s => s.spi span fun latched s =>
    let risen := { s with req := s.req.rise (latched.byte :: List.replicate bytes.length 0) }
    match latched, s.req.port with
    | .idle, .idle => risen.takeFrame bytes
    | _, _ => risen

/-- The bytes a COLLECT clocks out after the status byte: the frame, then zeros (R180). -/
def collected (frame : List Byte) (clocked : Nat) : List Byte :=
  frame.take clocked ++ List.replicate (clocked - frame.length) 0

/-- COLLECT (R180): the buffer is emptied when the whole check byte has been clocked out. -/
def execCollect (span : SpiSpan) (clocked : Nat) (_tailBits : Nat) (s : State) : Result :=
  s.unlessReset fun s => s.spi span fun latched s =>
    match latched, s.req.port with
    | .answerReady, .answerReady a =>
      let risen := s.req.rise (latched.byte :: collected a.frame clocked)
      if a.frame.length ≤ clocked then { s with req := { risen with port := .idle } }
      else { s with req := risen }
    | _, _ => { s with req := s.req.rise (latched.byte :: collected noAnswerFrame clocked) }

/-- STATUS_ONLY_TRANSACTION (R177): the status byte, then zeros; no effect. Where CSn rises before the
direction byte is complete, no whole byte is clocked out. -/
def execStatusOnlyTransaction (span : SpiSpan) (direction : Option Byte) (clocked : Nat)
    (s : State) : Result :=
  s.unlessReset fun s => s.spi span fun latched s =>
    let miso := if direction.isNone then [] else latched.byte :: List.replicate clocked 0
    { s with req := s.req.rise miso }

/-- CSN_SEEN_HIGH (R181): after a hard reset the part follows the link again. -/
def execCsnSeenHigh (s : State) : Result :=
  s.unlessReset fun s => { s with req := { s.req with csnSeen := true } }

end Sys2Proof.Machine
end

