-- ==== Sys2Proof/Machine/Reset.lean ====
section
/-! DEFINITION. The part's resets: the hard reset (R20, R25, R183), RESET FULL (R184) and RESET ACCOUNTS
(R87, R151). -/

namespace Sys2Proof.Machine

/-- The reset cause record that a hard reset leaves (R183): POWER_ON with 0 when the power-on detector
holds the part in reset, also together with RSTn or after it in one hold; PIN with the tickets ISSUED as
the reset falls; unchanged while the part is held on. -/
def State.hardResetRecord (s : State) (powerOn : Bool) : ResetRecord :=
  if powerOn then ⟨.powerOn, 0⟩
  else if s.inReset then s.resetRecord
  else ⟨.pin, s.issuedCount⟩

/-- HARD_RESET (R20, R183): the new levels of the power-on detector and RSTn. While either holds, every
block stands at its reset values; when both let go, the part goes on from there. -/
def execHardReset (powerOn pin : Bool) (s : State) : Result :=
  if powerOn || pin then
    .next { State.reset with
      pending := s.pending
      pins := ⟨powerOn, pin⟩
      resetRecord := s.hardResetRecord powerOn }
  else .next { s with pins := ⟨false, false⟩ }

/-- RESET_FULL (R184): the reset cause record is written, every block takes its reset values, and DONE is
placed in the buffer; the link goes on as it was (log entry 10), and the Table Arbiter takes the position of
R19. The tickets are counted at the command, which is the moment of the grant (log entry 13). -/
def execResetFull (s : State) : Result :=
  s.inHostTransaction fun r =>
    match r with
    | .resetFull =>
      some ({ State.reset with
        pending := s.pending
        pins := s.pins
        resetRecord := ⟨.request, s.issuedCount⟩
        req := s.req }.hostAnswer .done)
    | _ => none

/-- A record after RESET ACCOUNTS (R87). -/
def Record.resetAccount (r : Record) (c : ClassSettings) : Record :=
  { r with
    balance := c.initialBalance
    consumed := 0
    grantCount := 0
    lowest := c.initialBalance
    highest := r.backlog }

/-- The Load Governor after RESET ACCOUNTS (R151). -/
def Governor.resetAccounts (g : Governor) : Governor :=
  { g with load := .calm, countdown := 0, windowUsage := 0, podiumUsage := 0, busiest := 0 }

/-- RESET_ACCOUNTS (R87): every account, the background-skip counter and the governor's usage, busiest mark,
countdown and state. -/
def execResetAccounts (s : State) : Result :=
  s.inHostTransaction fun r =>
    match r with
    | .resetAccounts =>
      some ({ s.mapRecords (fun r => r.resetAccount (s.classSettings r.cls)) with
        skip := 0
        gov := s.gov.resetAccounts }.endHost .done)
    | _ => none

end Sys2Proof.Machine
end

