-- ==== Sys2Proof/Machine/Timers.lean ====
section
/-! DEFINITION. What the part's timers do at their moments: the Ticket Timer (spec 06), the Sweeper (spec
03), the Load Governor's windows (spec 07) and the coalescing timer (spec 09), and the transactions of the
Ticket Timer and the Sweeper. -/

namespace Sys2Proof.Machine

/-! ### The Ticket Timer -/

/-- The time left to the nearest deadline of an ISSUED ticket, 0 when one is due; none when no ticket is
ISSUED. -/
def nearestDeadline : List Ticket → Option Nat
  | [] => none
  | t :: rest =>
    match t.issue, nearestDeadline rest with
    | none, best => best
    | some i, none => some i.left.toNat
    | some i, some n => some (min i.left.toNat n)

/-- A ticket becomes due (R130): the Ticket Timer asks for a transaction unless it has one asked for or
granted. -/
def State.ticketDue (s : State) : State :=
  if s.timerAsked then s else { s with timerAsked := true }.ask .ticketTimer

/-- The label of the record at a handle, absent when there is none. -/
def State.labelOf (s : State) (h : Nat) : Option (BitVec 16) := (s.record h).bind Record.label

/-- The expiry of an ISSUED ticket (R131, R132): the ticket returned, its holder charged the airtime limit,
an EXPIRED notice, and the end of a drain. -/
def State.expire (s : State) (n : Nat) (i : Issue) : State :=
  ((((s.returnTicket n).charge i.holder i.limit).updateRecord i.holder fun r =>
      { r with held := r.held - 1 }).notify
    (.expired i.holder (s.labelOf i.holder) n i.limit)).endDrain i.holder

/-- The work of an expiry transaction: one due ticket, or none (R131). -/
def State.expireEarliest (s : State) : State :=
  match earliestDue 0 s.tickets.toList with
  | none => s
  | some (n, i) => s.expire n i

/-- EXPIRY (R131): it happens when the Ticket Timer holds the table. When it ends with a ticket still due,
the Timer asks again (R130). -/
def execExpiry (s : State) : Result :=
  s.unlessReset fun s =>
    if s.arbiter.holder = some .ticketTimer ∧ s.timerAsked then
      { s.expireEarliest with timerAsked := s.expireEarliest.anyDue }.release
    else s

/-! ### The Sweeper -/

/-- The period timer expires (R64): it reloads, and a pass begins at handle 0 unless one is running. -/
def State.periodExpired (s : State) : State :=
  let reloaded := s.settings.presence.passPeriod * 1000
  match s.sweeper.pass with
  | some h => { s with sweeper := ⟨reloaded, some h⟩ }
  | none => { s with sweeper := ⟨reloaded, some 0⟩ }.ask .sweeper

/-- The retire outcome of an ageing record (R67). -/
def ageOutcome (autoRetire : Bool) (held : Nat) : RetireOutcome :=
  if autoRetire then if held = 0 then .freed else .draining else .none

/-- A record ages at a handle (R67): its linger is 0 and its aged mark set, it is auto-retired where its
class has auto-retire ON, and an AGED notice is made. -/
def State.age (s : State) (h : Nat) (r : Record) : State :=
  let auto := (s.classSettings r.cls).autoRetire
  let aged := s.putRecord h (some { r with linger := 0, aged := true })
  (if auto then aged.retire h .aged else aged).notify
    (.aged h r.address r.label (ageOutcome auto r.held))

/-- The step of a handle (R66). -/
def State.sweep (s : State) (h : Nat) : State :=
  match s.record h with
  | none => s
  | some r =>
    if !r.living || r.linger == 0 then s
    else if r.linger = 1 then s.age h r
    else s.putRecord h (some { r with linger := r.linger - 1 })

/-- The pass position after the step of a handle: the next handle, or no pass after 639 (R65). -/
def passAfter (h : Nat) : Option Nat := if h < 639 then some (h + 1) else none

/-- SWEEPER_STEP (R66): it happens when the Sweeper holds the table in a pass, which then asks at once for
the step of the next handle (R65). -/
def execSweeperStep (s : State) : Result :=
  s.unlessReset fun s =>
    match s.arbiter.holder, s.sweeper.pass with
    | some .sweeper, some h =>
      { s.sweep h with sweeper := { s.sweeper with pass := passAfter h } }.release
    | _, _ => s

/-! ### The Load Governor -/

/-- The utilization of a window (R145): 100 × usage over its length in µs, rounded down, capped at 255. -/
def utilization (usage window : Nat) : Nat := min 255 (100 * usage / (window * 1000))

/-- The load and countdown at a window end in mode ON (Table 7-3). -/
def judgeLoad (c : GovernorSettings) (load : Load) (countdown u : Nat) : Load × Nat :=
  match load with
  | .calm => if c.enter ≤ u then (.crowded, c.minHold) else (.calm, 0)
  | .crowded =>
    if 0 < countdown - 1 then (.crowded, countdown - 1)
    else if c.exit ≤ u then (.crowded, 0)
    else (.calm, 0)

/-- The Load Governor at a window end (R144 to R148): measured, judged in mode ON, its usage cleared and
its next window started. -/
def Governor.windowEnd (g : Governor) (c : GovernorSettings) : Governor :=
  let u := utilization g.windowUsage c.window
  let judged := if c.mode then judgeLoad c g.load g.countdown u else (g.load, g.countdown)
  { g with
    load := judged.1
    countdown := judged.2
    windowUsage := 0
    podiumUsage := 0
    lastUtilization := u
    busiest := max g.busiest u
    windowLeft := c.window * 1000 }

/-- A change of the governor's state makes a GOVERNOR notice (R147). -/
def State.setGovernorState (s : State) (g : Governor) : State :=
  if g.load = s.gov.load then { s with gov := g }
  else { s with gov := g }.notify (.governor g.load g.lastUtilization)

/-- A window ends (R144). -/
def State.windowEnded (s : State) : State :=
  s.setGovernorState (s.gov.windowEnd s.settings.governor)

/-! ### The coalescing timer -/

/-- The coalescing timer expires (R173): it stops, and ATTN is asserted when notices are held. -/
def State.coalesceExpired (s : State) : State :=
  { s with notices := { s.notices with
      timer := none
      attn := s.notices.attn || !s.notices.queue.isEmpty } }

end Sys2Proof.Machine
end

