-- ==== Sys2Proof/Machine/SettingsRequests.lean ====
section
/-! DEFINITION. The requests that change settings outside the class settings: SET_TIER (spec 04),
SET_SCHEDULER (spec 05), SET_PRESENCE (spec 03), SET_GOVERNOR and HOLD (spec 07), SET_NOTICE (spec 09). -/

namespace Sys2Proof.Machine

/-! ### The Tier Table -/

/-- One entry of the Tier Table replaced; none makes it invalid. -/
def State.putTier (s : State) (k : Nat) (e : Option TierEntry) : State :=
  { s with settings := { s.settings with tiers := s.settings.tiers.setIfInBounds k e } }

/-- A WRITE breaks the order of the table (R78): no valid entry below it, or a limit not above the entry
below or not below a valid entry above. -/
def Settings.writeBreaksOrder (s : Settings) (k : Nat) (e : TierEntry) : Bool :=
  (decide (0 < k) &&
    match s.tier (k - 1) with
    | none => true
    | some below => decide (e.rateLimit ≤ below.rateLimit)) ||
  (decide (k < 7) &&
    match s.tier (k + 1) with
    | none => false
    | some above => decide (above.rateLimit ≤ e.rateLimit))

/-- SET_TIER_WRITE (R78). -/
def execSetTierWrite (s : State) : Result :=
  s.inHostTransaction fun r =>
    match r with
    | .setTierWrite k e =>
      if s.settings.writeBreaksOrder k e then some (s.endHost (.order s.settings.validTiers))
      else some ((s.putTier k (some e)).endHost .done)
    | _ => none

/-- An INVALIDATE is refused (R79): the entry is not the highest valid entry, or it is entry 0. -/
def Settings.invalidateBreaksOrder (s : Settings) (k : Nat) : Bool :=
  (s.tier k).isNone || (s.tier (k + 1)).isSome || k == 0

/-- SET_TIER_INVALIDATE (R79). -/
def execSetTierInvalidate (s : State) : Result :=
  s.inHostTransaction fun r =>
    match r with
    | .setTierInvalidate k =>
      if s.settings.invalidateBreaksOrder k then some (s.endHost (.order s.settings.validTiers))
      else some ((s.putTier k none).endHost .done)
    | _ => none

/-! ### The settings groups -/

/-- The scheduler settings that items leave (R114). -/
def SchedulerItems.apply (i : SchedulerItems) (c : SchedulerSettings) : SchedulerSettings where
  ticketLifetime := i.ticketLifetime.getD c.ticketLifetime
  podiumShare := i.podiumShare.getD c.podiumShare
  backgroundInterval := i.backgroundInterval.getD c.backgroundInterval

/-- SET_SCHEDULER (R114). -/
def execSetScheduler (s : State) : Result :=
  s.inHostTransaction fun r =>
    match r with
    | .setScheduler i =>
      some ({ s with settings := { s.settings with
        scheduler := i.apply s.settings.scheduler } }.endHost .done)
    | _ => none

/-- The presence settings that items leave (R71). -/
def PresenceItems.apply (i : PresenceItems) (c : PresenceSettings) : PresenceSettings where
  passPeriod := i.passPeriod.getD c.passPeriod
  mgmtSwitch := i.mgmtSwitch.getD c.mgmtSwitch
  dataSwitch := i.dataSwitch.getD c.dataSwitch
  ctrlSwitch := i.ctrlSwitch.getD c.ctrlSwitch

/-- The period timer after a SET_PRESENCE: reloaded at once when the request carries a period (R72). -/
def Sweeper.afterPresence (w : Sweeper) (period : Option Nat) : Sweeper :=
  match period with
  | some p => { w with periodLeft := p * 1000 }
  | none => w

/-- SET_PRESENCE (R71, R72). -/
def execSetPresence (s : State) : Result :=
  s.inHostRequest fun r =>
    match r with
    | .setPresence i =>
      some ({ s with
        settings := { s.settings with presence := i.apply s.settings.presence }
        sweeper := s.sweeper.afterPresence i.passPeriod }.hostAnswer .done)
    | _ => none

/-- A SET_GOVERNOR carries no item. -/
def GovernorItems.isEmpty (i : GovernorItems) : Bool :=
  i.mode.isNone && i.window.isNone && i.enter.isNone && i.exit.isNone && i.minHold.isNone

/-- The Load Governor restarted by a SET_GOVERNOR (R153): usage cleared, a new window begun, and CALM
forced by a request that sets the mode OFF. -/
def Governor.restarted (g : Governor) (c : GovernorSettings) (mode : Option Bool) : Governor :=
  { g with
    windowUsage := 0
    podiumUsage := 0
    windowLeft := c.window * 1000
    load := if mode = some false then .calm else g.load
    countdown := if mode = some false ∧ g.load = .crowded then 0 else g.countdown }

/-- SET_GOVERNOR (R153). -/
def execSetGovernor (s : State) : Result :=
  s.inHostRequest fun r =>
    match r with
    | .setGovernor i =>
      if i.isEmpty then some (s.hostAnswer .done)
      else
        let c := i.apply s.settings.governor
        some (({ s with settings := { s.settings with governor := c } }.setGovernorState
          (s.gov.restarted c i.mode)).hostAnswer .done)
    | _ => none

/-- The notice settings that items leave (R175). -/
def NoticeItems.apply (i : NoticeItems) (c : NoticeSettings) : NoticeSettings where
  coalesceCount := i.coalesceCount.getD c.coalesceCount
  coalesceTime := i.coalesceTime.getD c.coalesceTime

/-- A new coalesce count applied at once (R175): ATTN is asserted and the timer stopped when ATTN is
released and the queue holds at least the new count. -/
def NoticeQueue.afterCount (q : NoticeQueue) (count : Option Nat) : NoticeQueue :=
  match count with
  | none => q
  | some n => if !q.attn && decide (n ≤ q.queue.length) then { q with attn := true, timer := none } else q

/-- SET_NOTICE (R175). -/
def execSetNotice (s : State) : Result :=
  s.inHostRequest fun r =>
    match r with
    | .setNotice i =>
      some ({ s with
        settings := { s.settings with notice := i.apply s.settings.notice }
        notices := s.notices.afterCount i.coalesceCount }.hostAnswer .done)
    | _ => none

/-- HOLD (R156): the hold counter takes the duration in µs. -/
def execHold (s : State) : Result :=
  s.inHostRequest fun r =>
    match r with
    | .hold ms => some ({ s with gov := { s.gov with hold := ms * 1000 } }.hostAnswer .done)
    | _ => none

end Sys2Proof.Machine
end

