-- ==== Sys2Proof/Machine/Idle.lean ====
section
/-! DEFINITION. What the part does by itself: its own next step, and the passage of one µs when it has none
(log entry 1). -/

namespace Sys2Proof.Machine

/-- The command that stands for a message's transaction. -/
def MessageBody.command : MessageBody → Option Instr
  | .opportunity _ => some .opportunity
  | .complete _ => some .complete
  | .heard _ => some .heard
  | .demand .. => some .demand
  | .resync => some .resync
  | .quiet _ => none

/-- The command that stands for a request's execution. -/
def Request.command : Request → Instr
  | .identify => .identify
  | .admitStation _ => .admitStation
  | .amend .. => .amend
  | .retire _ => .retire
  | .lookup _ => .lookup
  | .readRecord .. => .readRecord
  | .list .. => .list
  | .readTickets => .readTickets
  | .setClass .. => .setClass
  | .setTierWrite .. => .setTierWrite
  | .setTierInvalidate _ => .setTierInvalidate
  | .setScheduler _ => .setScheduler
  | .setPresence _ => .setPresence
  | .setGovernor _ => .setGovernor
  | .setNotice _ => .setNotice
  | .readSettings _ => .readSettings
  | .readGovernor _ => .readGovernor
  | .hold _ => .hold
  | .fetchNotices _ => .fetchNotices
  | .resetFull => .resetFull
  | .resetAccounts => .resetAccounts

/-- A request in execution that takes no transaction. -/
def State.directStep (s : State) : Option Instr :=
  match s.req.port with
  | .working r => if r.usesTable then none else some r.command
  | _ => none

/-- The transaction that holds the table. -/
def State.transactionStep (s : State) : Option Instr :=
  match s.arbiter.holder with
  | none => none
  | some .mediumEngine => s.medium.work.bind fun m => m.body.command
  | some .requestEngine =>
    match s.req.port with
    | .working r => if r.usesTable then some r.command else none
    | _ => none
  | some .ticketTimer => if s.timerAsked then some .expiry else none
  | some .sweeper => if s.sweeper.pass.isSome then some .sweeperStep else none

/-- A timer outside the table that has run out (R144, R173). -/
def State.timerStep (s : State) : Option Instr :=
  if s.gov.windowLeft = 0 then some .windowEnd
  else if s.notices.timer = some 0 then some .coalesceTimerExpiry
  else none

/-- The step by which a client comes to ask for the table, when it can happen now. -/
def State.askStep (s : State) : Client → Option Instr
  | .mediumEngine => if s.canTake then some .messageTake else none
  | .requestEngine => none
  | .ticketTimer => if s.anyDue && !s.timerAsked then some .ticketDue else none
  | .sweeper => if s.sweeper.periodLeft = 0 then some .periodTimerExpiry else none

/-- The part's own next step, none when nothing can happen before the next µs. Whatever falls at this moment
comes before the transaction that holds the table ends, so a client that comes to ask waits when the next
grant is made, and is served after at most three other transactions (R19). Of clients that come to ask
together the rotation's first comes first. The order of the rest is the model's (log entry 1). -/
def State.ownStep (s : State) : Option Instr :=
  if s.inReset then none
  else s.directStep <|> s.timerStep <|> s.arbiter.lastServed.after.findSome? s.askStep
    <|> s.transactionStep

/-- One µs passes, unless the part is held in reset. -/
def State.idle (s : State) : State := if s.inReset then s else s.passTime 1

end Sys2Proof.Machine
end

