-- ==== Sys2Proof/Machine/Passage.lean ====
section
/-! DEFINITION. The part left to itself for a time: what happens by itself in it is worked at its moment,
transactions taking no time (log entry 1), and the windows, passes and expiries go on (R144, R154). -/

namespace Sys2Proof.Machine

/-- The state that a command answers, or the one before it where it answers none. -/
def stateAfter (s : State) : Result → State
  | .next t => t
  | .fault _ | .refused _ => s

/-- What the part's own next step does: the meaning of the command it stands for, the timed events at their
moment. -/
def State.ownEffect (s : State) : Instr → State
  | .messageTake => stateAfter s (execMessageTake s)
  | .opportunity => stateAfter s (execOpportunity s)
  | .complete => stateAfter s (execComplete s)
  | .heard => stateAfter s (execHeard s)
  | .demand => stateAfter s (execDemand s)
  | .resync => stateAfter s (execResync s)
  | .ticketDue => s.ticketDue
  | .expiry => stateAfter s (execExpiry s)
  | .periodTimerExpiry => s.periodExpired
  | .sweeperStep => stateAfter s (execSweeperStep s)
  | .windowEnd => s.windowEnded
  | .coalesceTimerExpiry => s.coalesceExpired
  | .identify => stateAfter s (execIdentify s)
  | .admitStation => stateAfter s (execAdmit s)
  | .amend => stateAfter s (execAmend s)
  | .retire => stateAfter s (execRetire s)
  | .lookup => stateAfter s (execLookup s)
  | .readRecord => stateAfter s (execReadRecord s)
  | .list => stateAfter s (execList s)
  | .readTickets => stateAfter s (execReadTickets s)
  | .setClass => stateAfter s (execSetClass s)
  | .setTierWrite => stateAfter s (execSetTierWrite s)
  | .setTierInvalidate => stateAfter s (execSetTierInvalidate s)
  | .setScheduler => stateAfter s (execSetScheduler s)
  | .setPresence => stateAfter s (execSetPresence s)
  | .setGovernor => stateAfter s (execSetGovernor s)
  | .setNotice => stateAfter s (execSetNotice s)
  | .readSettings => stateAfter s (execReadSettings s)
  | .readGovernor => stateAfter s (execReadGovernor s)
  | .hold => stateAfter s (execHold s)
  | .fetchNotices => stateAfter s (execFetchNotices s)
  | .resetFull => stateAfter s (execResetFull s)
  | .resetAccounts => stateAfter s (execResetAccounts s)
  | _ => s

/-- A client other than the Sweeper waits for the table. -/
def State.othersAsking (s : State) : Bool :=
  [Client.mediumEngine, .requestEngine, .ticketTimer].any s.asking

/-- The part's own next step on a loaded part, whose passes last (R64): the step of a pass that holds the
table ends when another client waits for the table, and else lasts until the queue commands it. All other
steps are as in ownStep (log entry 3). -/
def State.heldStep (s : State) : Option Instr :=
  match s.ownStep with
  | some .sweeperStep => if s.othersAsking then some .sweeperStep else none
  | step => step

/-- The part's own next steps at one moment, by the rule `own`, at most `n` of them. -/
def State.settle (own : State → Option Instr) : Nat → State → State
  | 0, s => s
  | n + 1, s =>
    match own s with
    | none => s
    | some c => State.settle own n (s.ownEffect c)

/-- Everything that happens by itself at this moment, by the rule `own`. The longest such run that the part
can hold, a whole pass of 640 steps with every message, ticket and request between, stays below 1,024 steps
(log entry 14). -/
def State.settled (s : State) (own : State → Option Instr) : State := State.settle own 1024 s

/-- The µs that pass at once in a settled state, at most `dt` and at least 1: up to the nearest moment at
which something happens by itself. -/
def State.stride (s : State) (own : State → Option Instr) (dt : Nat) : Nat :=
  if (own s).isSome then 1
  else
    max 1 (boundBy (boundBy (min dt (min s.gov.windowLeft s.sweeper.periodLeft)) s.notices.timer)
      (if s.timerAsked then none else nearestDeadline s.tickets.toList))

/-- The part left to itself for `dt` µs, in at most `n` strides. What happens at the end of the time is left
to what follows. -/
def State.elapseIn (own : State → Option Instr) : Nat → Nat → State → State
  | 0, _, s => s
  | n + 1, dt, s =>
    if dt = 0 then s
    else
      let t := s.settled own
      State.elapseIn own n (dt - t.stride own dt) (t.passTime (t.stride own dt))

/-- The part left to itself for `dt` µs: µs by µs, everything that happens by itself before the end of the
time is worked at its moment (R130, R144, R154, R163). -/
def State.elapse (s : State) (own : State → Option Instr) (dt : Nat) : State :=
  State.elapseIn own dt dt s

/-- The part left to itself up to a timed event, given by the time left to it, none when it is not to come.
At the event's own moment nothing passes. Before it, what happens by itself now comes first, since it can
change the time left. -/
def State.upTo (s : State) (own : State → Option Instr) (left : State → Option Nat) : State :=
  match left s with
  | none | some 0 => s
  | some _ =>
    match left (s.settled own) with
    | none => s.settled own
    | some n => (s.settled own).elapse own n

/-- A command that names a timed event: the part left to itself up to it, and then the event, unless what
happened meanwhile has put it off (log entry 3). -/
def State.timedEvent (s : State) (own : State → Option Instr) (left : State → Option Nat)
    (event : State → State) : State :=
  let t := s.upTo own left
  if left t = some 0 then event t else t

end Sys2Proof.Machine
end

