-- ==== Sys2Proof/Machine/TimedEvents.lean ====
section
/-! DEFINITION. The commands that name a timed event. Each stands for the time left to the event, in which
the part is left to itself, and then the event. A pass may run on through the time of all but
HOLD_COUNTER_EXPIRY, so that an expiry of the period timer can find it running (R64); the time of a hold,
which may be seconds, works its passes at once (R154). Both are the model's choice (log entry 3). -/

namespace Sys2Proof.Machine

/-- The time left to the nearest deadline of an ISSUED ticket, none when no ticket is ISSUED. -/
def State.deadlineLeft (s : State) : Option Nat := nearestDeadline s.tickets.toList

/-- The time left to the expiry of the period timer. -/
def State.periodLeft (s : State) : Option Nat := some s.sweeper.periodLeft

/-- The time left in the window. -/
def State.windowLeft (s : State) : Option Nat := some s.gov.windowLeft

/-- The time left to the end of the hold. -/
def State.holdLeft (s : State) : Option Nat := some s.gov.hold

/-- The time left to the expiry of the coalescing timer, none when it is stopped. -/
def State.coalesceLeft (s : State) : Option Nat := s.notices.timer

/-- TICKET_DUE (R130). With no ticket ISSUED there is no such event. -/
def execTicketDue (s : State) : Result :=
  s.unlessReset fun s => s.timedEvent State.heldStep State.deadlineLeft State.ticketDue

/-- PERIOD_TIMER_EXPIRY (R64). A pass that is running stays where it is, but for the steps that end for other
clients, and no pass begins if it still runs at the expiry. -/
def execPeriodTimerExpiry (s : State) : Result :=
  s.unlessReset fun s => s.timedEvent State.heldStep State.periodLeft State.periodExpired

/-- WINDOW_END (R144). -/
def execWindowEnd (s : State) : Result :=
  s.unlessReset fun s => s.timedEvent State.heldStep State.windowLeft State.windowEnded

/-- HOLD_COUNTER_EXPIRY (R154): the hold counter counts down to 0, and everything but grants goes on. -/
def execHoldCounterExpiry (s : State) : Result :=
  s.unlessReset fun s => s.timedEvent State.ownStep State.holdLeft id

/-- COALESCE_TIMER_EXPIRY (R173). With the timer stopped there is no such event. -/
def execCoalesceTimerExpiry (s : State) : Result :=
  s.unlessReset fun s => s.timedEvent State.heldStep State.coalesceLeft State.coalesceExpired

end Sys2Proof.Machine
end

