-- ==== Sys2Proof/Machine/Dispatch.lean ====
section
/-! DEFINITION. The meaning of each command: one arm for each row of spec/opcode_table.json, in the
table's order. -/

namespace Sys2Proof.Machine

def exec (i : Instr) (s : State) : Host.Outcome State Fault Refusal :=
  match i with
  | .hardReset powerOn pin => Sys2Proof.Machine.execHardReset powerOn pin s
  | .messageArrival w => Sys2Proof.Machine.execMessageArrival w s
  | .strayBodyWord w => Sys2Proof.Machine.execStrayBodyWord w s
  | .answerWordRead => Sys2Proof.Machine.execAnswerWordRead s
  | .messageTake => Sys2Proof.Machine.execMessageTake s
  | .opportunity => Sys2Proof.Machine.execOpportunity s
  | .complete => Sys2Proof.Machine.execComplete s
  | .heard => Sys2Proof.Machine.execHeard s
  | .demand => Sys2Proof.Machine.execDemand s
  | .resync => Sys2Proof.Machine.execResync s
  | .ticketDue => Sys2Proof.Machine.execTicketDue s
  | .expiry => Sys2Proof.Machine.execExpiry s
  | .periodTimerExpiry => Sys2Proof.Machine.execPeriodTimerExpiry s
  | .sweeperStep => Sys2Proof.Machine.execSweeperStep s
  | .windowEnd => Sys2Proof.Machine.execWindowEnd s
  | .holdCounterExpiry => Sys2Proof.Machine.execHoldCounterExpiry s
  | .coalesceTimerExpiry => Sys2Proof.Machine.execCoalesceTimerExpiry s
  | .submit span bytes tailBits => Sys2Proof.Machine.execSubmit span bytes tailBits s
  | .collect span clocked tailBits => Sys2Proof.Machine.execCollect span clocked tailBits s
  | .statusOnlyTransaction span direction clocked => Sys2Proof.Machine.execStatusOnlyTransaction span direction clocked s
  | .identify => Sys2Proof.Machine.execIdentify s
  | .admitStation => Sys2Proof.Machine.execAdmit s
  | .amend => Sys2Proof.Machine.execAmend s
  | .retire => Sys2Proof.Machine.execRetire s
  | .lookup => Sys2Proof.Machine.execLookup s
  | .readRecord => Sys2Proof.Machine.execReadRecord s
  | .list => Sys2Proof.Machine.execList s
  | .readTickets => Sys2Proof.Machine.execReadTickets s
  | .setClass => Sys2Proof.Machine.execSetClass s
  | .setTierWrite => Sys2Proof.Machine.execSetTierWrite s
  | .setTierInvalidate => Sys2Proof.Machine.execSetTierInvalidate s
  | .setScheduler => Sys2Proof.Machine.execSetScheduler s
  | .setPresence => Sys2Proof.Machine.execSetPresence s
  | .setGovernor => Sys2Proof.Machine.execSetGovernor s
  | .setNotice => Sys2Proof.Machine.execSetNotice s
  | .readSettings => Sys2Proof.Machine.execReadSettings s
  | .readGovernor => Sys2Proof.Machine.execReadGovernor s
  | .hold => Sys2Proof.Machine.execHold s
  | .fetchNotices => Sys2Proof.Machine.execFetchNotices s
  | .resetFull => Sys2Proof.Machine.execResetFull s
  | .resetAccounts => Sys2Proof.Machine.execResetAccounts s
  | .assemblyWord w => Sys2Proof.Machine.execAssemblyWord w s
  | .csnSeenHigh => Sys2Proof.Machine.execCsnSeenHigh s

end Sys2Proof.Machine
end

