-- ==== Sys2Proof/Safety.lean ====
section
/-! DEFINITION. The terms claims use: when a command's step can happen, what a step leaves unchanged, and
the laws of the part that the spec states over all its states. -/

namespace Sys2Proof.Machine

/-! ### When a step can happen -/

/-- The part is out of reset, the Medium Engine holds the table, and it holds this message (R17, R168). -/
structure State.MediumReady (s : State) (tag : BitVec 4) (body : MessageBody) : Prop where
  free : s.inReset = false
  holder : s.arbiter.holder = some .mediumEngine
  work : s.medium.work = some ⟨tag, body⟩

/-- The part is out of reset, the Request Engine holds the table, and it executes this request (R17,
R179). -/
structure State.HostReady (s : State) (r : Request) : Prop where
  free : s.inReset = false
  holder : s.arbiter.holder = some .requestEngine
  port : s.req.port = .working r

/-- The part is out of reset, and the Request Engine executes this request (R179). -/
structure State.HostWorking (s : State) (r : Request) : Prop where
  free : s.inReset = false
  port : s.req.port = .working r

/-! ### What a step leaves unchanged -/

/-- The parts of the state, one for each field of State. -/
inductive Part where
  | pending
  | pins
  | resetRecord
  | time
  | arbiter
  | records
  | lists
  | skip
  | tickets
  | pool
  | timerAsked
  | gov
  | sweeper
  | strangers
  | medium
  | notices
  | req
  | settings
deriving DecidableEq, Repr

/-- Two states agree on a part. -/
def Part.Same (s t : State) : Part → Prop
  | .pending => t.pending = s.pending
  | .pins => t.pins = s.pins
  | .resetRecord => t.resetRecord = s.resetRecord
  | .time => t.time = s.time
  | .arbiter => t.arbiter = s.arbiter
  | .records => t.records = s.records
  | .lists => t.lists = s.lists
  | .skip => t.skip = s.skip
  | .tickets => t.tickets = s.tickets
  | .pool => t.pool = s.pool
  | .timerAsked => t.timerAsked = s.timerAsked
  | .gov => t.gov = s.gov
  | .sweeper => t.sweeper = s.sweeper
  | .strangers => t.strangers = s.strangers
  | .medium => t.medium = s.medium
  | .notices => t.notices = s.notices
  | .req => t.req = s.req
  | .settings => t.settings = s.settings

/-- Everything but these parts is as it was. -/
def UnchangedExcept (parts : List Part) (s t : State) : Prop := ∀ p, p ∉ parts → p.Same s t

/-- Every record but the one at a handle is as it was. -/
def OtherRecordsSame (h : Nat) (s t : State) : Prop := ∀ k, k ≠ h → t.record k = s.record k

/-- Every ticket but one is as it was. -/
def OtherTicketsSame (n : Nat) (s t : State) : Prop := ∀ k, k ≠ n → t.ticket k = s.ticket k

/-- Every class's list but one is as it was. -/
def OtherListsSame (c : Cls) (s t : State) : Prop := ∀ d, d ≠ c → t.lists.get d = s.lists.get d

/-! ### Ends of transactions and answers -/

/-- The answer to a medium message is placed: at the tail of the answer queue, with the tag and the overrun
flag of the mark, which is cleared; the engine holds no message, and nothing else of the port changes
(R161, R163). -/
def MediumAnswered (s t : State) (tag : BitVec 4) (a : MediumAnswer) : Prop :=
  t.medium = { s.medium with
    answers := s.medium.answers ++ [⟨tag, s.medium.overrun, a⟩]
    overrun := false
    work := none }

/-- The answer to a request is placed in the buffer: the port is ANSWER_READY with it, and nothing else of
the port changes (R179). -/
def HostAnswered (s t : State) (a : HostAnswer) : Prop :=
  t.req = { s.req with port := .answerReady a }

/-- A transaction has ended: the table goes to the first client, in the cyclic order after the one served
most recently, that waits in the state left, or is free with the rotation position kept (R19). -/
def TableReleased (s t : State) : Prop :=
  t.arbiter =
    match s.arbiter.lastServed.after.find? t.asking with
    | some c => ⟨some c, c⟩
    | none => ⟨none, s.arbiter.lastServed⟩

/-- What one client's asking does to the arbiter: a free table is granted to it at once, a held one is not
(R19). -/
def TableAsked (s t : State) (c : Client) : Prop :=
  t.arbiter = if s.arbiter.holder.isNone then ⟨some c, c⟩ else s.arbiter

/-- A Medium Engine transaction ends with this answer, and besides nothing but these parts changes (R168). -/
structure EndsMedium (s t : State) (tag : BitVec 4) (a : MediumAnswer) (parts : List Part) : Prop where
  answered : MediumAnswered s t tag a
  released : TableReleased s t
  frame : UnchangedExcept (.medium :: .arbiter :: parts) s t

/-- A Request Engine transaction ends with this answer, and besides nothing but these parts changes
(R179). -/
structure EndsHost (s t : State) (a : HostAnswer) (parts : List Part) : Prop where
  answered : HostAnswered s t a
  released : TableReleased s t
  frame : UnchangedExcept (.req :: .arbiter :: parts) s t

/-- A request that takes no transaction is answered, and besides nothing but these parts changes (R17). -/
structure AnswersDirectly (s t : State) (a : HostAnswer) (parts : List Part) : Prop where
  answered : HostAnswered s t a
  frame : UnchangedExcept (.req :: parts) s t

/-- The record at one handle is now this one, FREE when none, and no other record changes. -/
structure OneRecord (s t : State) (h : Nat) (r : Option Record) : Prop where
  own : t.record h = r
  others : OtherRecordsSame h s t

/-- One ticket is now this one, and no other ticket changes. -/
structure OneTicket (s t : State) (n : Nat) (x : Ticket) : Prop where
  own : t.ticket n = x
  others : OtherTicketsSame n s t

/-- The Notice Queue after notices made one after another at the present ms time (R170, R171). -/
def NoticesMade (s t : State) (bodies : List NoticeBody) : Prop :=
  t.notices = bodies.foldl (fun q b => q.append s.settings.notice ⟨s.time.ms, b⟩) s.notices

/-- A charge to a record's account (R82): the balance falls, saturating at −32,768, the lowest balance
follows it, and consumed rises, saturating at 4,294,967,295. -/
def Record.debited (r : Record) (n : Nat) : Record :=
  { r with
    balance := max (-32768) (r.balance - n)
    lowest := min r.lowest (max (-32768) (r.balance - n))
    consumed := min 4294967295 (r.consumed + n) }

/-- A charge counted by the Load Governor (R143), both usages saturating at 16,777,215. -/
def UsageCounted (s t : State) (n : Nat) (c : Cls) : Prop :=
  t.gov = { s.gov with
    windowUsage := min 16777215 (s.gov.windowUsage + n)
    podiumUsage :=
      if c = .podium then min 16777215 (s.gov.podiumUsage + n) else s.gov.podiumUsage }

/-- The least of a balance, a burst cap, and the bounds that are present (R110). -/
def leastBound (balance burst : Nat) (bounds : List (Option Nat)) : Nat :=
  (bounds.filterMap id).foldl min (min balance burst)

/-! ### Time -/

/-- `dt` µs have passed and nothing else has happened: both times have run on and wrapped (R130, R170),
the hold counter has fallen and stopped at 0 (R154), and every running timer is `dt` nearer to its
expiry (R63, R130, R142, R173). -/
structure TimePassed (dt : Nat) (s t : State) : Prop where
  us : t.time.us.toNat = (s.time.us.toNat + dt) % 2 ^ 32
  ms : t.time.ms.toNat = (s.time.ms.toNat + (s.time.frac + dt) / 1000) % 2 ^ 32
  frac : t.time.frac = (s.time.frac + dt) % 1000
  gov : t.gov = { s.gov with hold := s.gov.hold - dt, windowLeft := s.gov.windowLeft - dt }
  sweeper : t.sweeper = { s.sweeper with periodLeft := s.sweeper.periodLeft - dt }
  notices : t.notices = { s.notices with timer := s.notices.timer.map (· - dt) }
  tickets : ∀ n, t.ticket n =
    ⟨(s.ticket n).seq, (s.ticket n).issue.map fun i => { i with left := i.left - dt }⟩
  frame : UnchangedExcept [.time, .gov, .sweeper, .notices, .tickets] s t

/-! ### SPI transactions -/

/-- An SPI transaction ends now and is judged by this port state, the one as CSn fell (R177): CSn rises
with the state latched, or CSn falls and rises at once on a link that the part follows. -/
def EndsLatched (s : State) (span : SpiSpan) (p : PortStatus) : Prop :=
  (span = .rise ∧ s.req.csn = some p)
    ∨ (span = .whole ∧ s.req.csnSeen = true ∧ s.req.csn = none ∧ p = s.req.port.status)

/-- The port after the rise that ends a transaction, these bytes clocked out, its state kept. -/
def RequestPort.risen (q : RequestPort) (miso : List Byte) : RequestPort :=
  { q with csn := none, csnSeen := true, miso := miso }

/-- A sound request frame (R178): code, length, as many body bytes as the length gives, at most 160, and
the CRC-8 of all of these. -/
def SoundFrame (bytes : List Byte) (code : Byte) (body : List Byte) : Prop :=
  ∃ len : Byte, len.toNat ≤ 160 ∧ body.length = len.toNat ∧
    bytes = code :: len :: (body ++ [crc8 (code :: len :: body)])

/-- The first `n` bytes clocked out of a frame, 0 past its end (R180). -/
def clockedOut (frame : List Byte) (n : Nat) : List Byte :=
  (List.range n).map fun k => frame.getD k 0

/-! ### The forms of requests on the wire -/

/-- What one item of a request may be (Table 10-5, with the range of the table that owns it): its
identifier, the identifier it counts as for the rule of one item only (R186), the bytes of its value, and
the least and the most of its value. -/
structure ItemForm where
  id : Nat
  counted : Nat
  width : Nat
  least : Nat
  most : Nat
deriving DecidableEq, Repr

/-- The items of AMEND (Tables 10-5, 2-5). -/
def amendForms : List ItemForm :=
  [⟨1, 1, 1, 0, 2⟩, ⟨2, 2, 1, 1, 8⟩, ⟨3, 3, 2, 0, 65535⟩, ⟨4, 3, 0, 0, 0⟩, ⟨5, 5, 2, 1, 65535⟩,
    ⟨6, 5, 0, 0, 0⟩, ⟨7, 7, 2, 200, 8000⟩, ⟨8, 7, 0, 0, 0⟩, ⟨9, 9, 1, 0, 1⟩, ⟨10, 10, 0, 0, 0⟩]

/-- The items of SET_CLASS (Tables 10-5, 2-4); the initial balance is bounded by the balance cap too. -/
def classForms : List ItemForm :=
  [⟨1, 1, 2, 0, 640⟩, ⟨2, 2, 2, 1, 65535⟩, ⟨3, 3, 1, 0, 1⟩, ⟨4, 4, 1, 1, 4⟩, ⟨5, 5, 2, 0, 65535⟩,
    ⟨6, 6, 2, 1000, 32767⟩]

/-- The items of SET_SCHEDULER (Tables 10-5, 5-6). -/
def schedulerForms : List ItemForm := [⟨1, 1, 1, 1, 255⟩, ⟨2, 2, 1, 0, 100⟩, ⟨3, 3, 1, 1, 255⟩]

/-- The items of SET_PRESENCE (Tables 10-5, 3-6). -/
def presenceForms : List ItemForm :=
  [⟨1, 1, 2, 100, 10000⟩, ⟨2, 2, 1, 0, 1⟩, ⟨3, 3, 1, 0, 1⟩, ⟨4, 4, 1, 0, 1⟩]

/-- The items of SET_GOVERNOR (Tables 10-5, 7-5). -/
def governorForms : List ItemForm :=
  [⟨1, 1, 1, 0, 1⟩, ⟨2, 2, 2, 10, 1000⟩, ⟨3, 3, 1, 50, 100⟩, ⟨4, 4, 1, 5, 95⟩, ⟨5, 5, 1, 1, 255⟩]

/-- The items of SET_NOTICE (Tables 10-5, 9-2). -/
def noticeForms : List ItemForm := [⟨1, 1, 1, 1, 32⟩, ⟨2, 2, 2, 1, 1000⟩]

/-- One item of a request: its form and its value. -/
structure Item where
  form : ItemForm
  value : Nat
deriving DecidableEq, Repr

/-- An item on the wire: its identifier, then its value (R186). -/
def Item.bytes (i : Item) : List Byte := BitVec.ofNat 8 i.form.id :: bytesOfNat i.form.width i.value

/-- Items that a request of these forms may carry together (R186): each listed and in its range, none
twice. -/
structure ItemsFit (forms : List ItemForm) (items : List Item) : Prop where
  listed : ∀ i ∈ items, i.form ∈ forms ∧ i.form.least ≤ i.value ∧ i.value ≤ i.form.most
  once : (items.map fun i => i.form.counted).Nodup

/-- The value of the item of an identifier, where it is carried. -/
def carried (items : List Item) (id : Nat) : Option Nat :=
  (items.find? fun i => i.form.id == id).map Item.value

/-- The change to an optional field that SET of one identifier or REMOVE of the next makes, none when
neither is carried. -/
def carriedChange (items : List Item) (id : Nat) : Option (Option Nat) :=
  if (carried items id).isSome then some (carried items id)
  else if (carried items (id + 1)).isSome then some none
  else none

/-- The body of an ADMIT (R186): the optional fields present in their order. -/
def admissionBody (a : Admission) : List Byte :=
  let optional : Option Nat → List Byte := fun v => (v.map (bytesOfNat 2)).getD []
  bytesOfNat 6 a.address.toNat ++
    [BitVec.ofNat 8 a.cls.code, BitVec.ofNat 8 a.weight,
      BitVec.ofNat 8 (a.label.isSome.toNat + 2 * a.lingerOverride.isSome.toNat +
        4 * a.burstOverride.isSome.toNat)] ++
    optional (a.label.map BitVec.toNat) ++ optional a.lingerOverride ++ optional a.burstOverride

/-- The fields of an ADMIT are in their ranges (R27). -/
structure Admission.Fits (a : Admission) : Prop where
  weight : 1 ≤ a.weight ∧ a.weight ≤ 8
  linger : ∀ n, a.lingerOverride = some n → 1 ≤ n ∧ n ≤ 65535
  burst : ∀ n, a.burstOverride = some n → 200 ≤ n ∧ n ≤ 8000

/-- An AMEND says what its items say. -/
structure Amendment.Says (a : Amendment) (items : List Item) : Prop where
  cls : a.cls.map Cls.code = carried items 1
  weight : a.weight = carried items 2
  label : a.label.map (Option.map BitVec.toNat) = carriedChange items 3
  linger : a.lingerOverride = carriedChange items 5
  burst : a.burstOverride = carriedChange items 7
  barred : a.barred.map Bool.toNat = carried items 9
  toInitial : a.toInitial = (carried items 10).isSome

/-- A SET_CLASS says what its items say. -/
structure ClassItems.Says (c : ClassItems) (items : List Item) : Prop where
  capacity : c.capacity = carried items 1
  lingerReload : c.lingerReload = carried items 2
  autoRetire : c.autoRetire.map Bool.toNat = carried items 3
  ticketCap : c.ticketCap = carried items 4
  initialBalance : c.initialBalance = carried items 5
  balanceCap : c.balanceCap = carried items 6

/-- A SET_GOVERNOR says what its items say. -/
structure GovernorItems.Says (g : GovernorItems) (items : List Item) : Prop where
  mode : g.mode.map Bool.toNat = carried items 1
  window : g.window = carried items 2
  enter : g.enter = carried items 3
  exit : g.exit = carried items 4
  minHold : g.minHold = carried items 5

/-- A SET_PRESENCE says what its items say. -/
structure PresenceItems.Says (p : PresenceItems) (items : List Item) : Prop where
  passPeriod : p.passPeriod = carried items 1
  mgmtSwitch : p.mgmtSwitch.map Bool.toNat = carried items 2
  dataSwitch : p.dataSwitch.map Bool.toNat = carried items 3
  ctrlSwitch : p.ctrlSwitch.map Bool.toNat = carried items 4

/-- A request's code and body on the wire (Tables 10-1, 10-4, 10-5), its fields passing the field checks of
the rule that owns it: what the part's settings say is asked only where two settings of one group bound
each other (R34, R152). -/
def Request.Form (g : Settings) (code : Nat) (body : List Byte) : Request → Prop
  | .identify => code = 0x01 ∧ body = []
  | .admitStation a => code = 0x02 ∧ a.Fits ∧ body = admissionBody a
  | .amend h a => code = 0x03 ∧ h ≤ 639 ∧
      ∃ items, ItemsFit amendForms items ∧ a.Says items ∧
        body = bytesOfNat 2 h ++ items.flatMap Item.bytes
  | .retire h => code = 0x04 ∧ h ≤ 639 ∧ body = bytesOfNat 2 h
  | .lookup a => code = 0x05 ∧ body = bytesOfNat 6 a.toNat
  | .readRecord h clear => code = 0x06 ∧ h ≤ 639 ∧
      body = bytesOfNat 2 h ++ [BitVec.ofNat 8 clear.toNat]
  | .list c start count => code = 0x07 ∧ start ≤ 639 ∧ 1 ≤ count ∧ count ≤ 16 ∧
      body = BitVec.ofNat 8 c.code :: (bytesOfNat 2 start ++ [BitVec.ofNat 8 count])
  | .readTickets => code = 0x08 ∧ body = []
  | .setClass c i => code = 0x10 ∧
      (i.initialBalance.getD (g.classes.get c).initialBalance
        ≤ i.balanceCap.getD (g.classes.get c).balanceCap) ∧
      ∃ items, ItemsFit classForms items ∧ i.Says items ∧
        body = BitVec.ofNat 8 c.code :: items.flatMap Item.bytes
  | .setTierWrite k e => code = 0x11 ∧ k ≤ 7 ∧
      (1 ≤ e.rateLimit ∧ e.rateLimit ≤ 30000) ∧ (1 ≤ e.quantum ∧ e.quantum ≤ 8000) ∧
      (200 ≤ e.burstCap ∧ e.burstCap ≤ 8000) ∧
      (200 ≤ e.crowdedBurstCap ∧ e.crowdedBurstCap ≤ e.burstCap) ∧
      (1 ≤ e.frameCap ∧ e.frameCap ≤ 64) ∧
      body = [1, BitVec.ofNat 8 k] ++ bytesOfNat 2 e.rateLimit ++ bytesOfNat 2 e.quantum ++
        bytesOfNat 2 e.burstCap ++ bytesOfNat 2 e.crowdedBurstCap ++ [BitVec.ofNat 8 e.frameCap]
  | .setTierInvalidate k => code = 0x11 ∧ k ≤ 7 ∧ body = [2, BitVec.ofNat 8 k]
  | .setScheduler i => code = 0x12 ∧
      ∃ items, ItemsFit schedulerForms items ∧ i.ticketLifetime = carried items 1 ∧
        i.podiumShare = carried items 2 ∧ i.backgroundInterval = carried items 3 ∧
        body = items.flatMap Item.bytes
  | .setPresence i => code = 0x13 ∧
      ∃ items, ItemsFit presenceForms items ∧ i.Says items ∧ body = items.flatMap Item.bytes
  | .setGovernor i => code = 0x14 ∧
      (i.exit.getD g.governor.exit < i.enter.getD g.governor.enter) ∧
      ∃ items, ItemsFit governorForms items ∧ i.Says items ∧ body = items.flatMap Item.bytes
  | .setNotice i => code = 0x15 ∧
      ∃ items, ItemsFit noticeForms items ∧ i.coalesceCount = carried items 1 ∧
        i.coalesceTime = carried items 2 ∧ body = items.flatMap Item.bytes
  | .readSettings group => code = 0x18 ∧
      body = [match group with
        | .classes => 1
        | .tiers => 2
        | .scheduler => 3
        | .presence => 4
        | .governor => 5
        | .notice => 6]
  | .readGovernor clear => code = 0x19 ∧ body = [BitVec.ofNat 8 clear.toNat]
  | .hold ms => code = 0x1A ∧ ms ≤ 4000 ∧ body = bytesOfNat 2 ms
  | .fetchNotices n => code = 0x1B ∧ 1 ≤ n ∧ n ≤ 8 ∧ body = [BitVec.ofNat 8 n]
  | .resetFull => code = 0x1C ∧ body = [1]
  | .resetAccounts => code = 0x1C ∧ body = [2]

/-- The request codes of Table 10-1. -/
def requestCodes : List Nat :=
  [0x01, 0x02, 0x03, 0x04, 0x05, 0x06, 0x07, 0x08, 0x10, 0x11, 0x12, 0x13, 0x14, 0x15, 0x18, 0x19, 0x1A,
    0x1B, 0x1C]

/-! ### The forms of messages on the wire -/

/-- The bits that each body word of a kind gives to its fields, for the optional fields that the header
names present; none for a kind the part does not know (Table 10-12). -/
def messageFields (kind : BitVec 4) (first second : Bool) : Option (List Word) :=
  match kind.toNat with
  | 1 => some [0x7FFF]
  | 2 => some ([0x1FFF, 0x7FFF, 0x3FFF] ++ (if first then [0x7FFF] else []) ++
      (if second then [0x03FF] else []))
  | 3 => some ([0x0FFF, 0x0FFF, 0x0FFF, 0x0FFF, 0x0007] ++ (if first then [0x7FFF] else []))
  | 4 => some [0x03FF, 0x03FF]
  | 5 => some [0x0001, 0x7FFF]
  | 6 => some []
  | _ => none

/-- The bits of a header word that are spare for a kind: bit 0, and the presence marks of the optional
fields the kind does not have (Tables 10-11, 10-12). -/
def headerSpare (kind : BitVec 4) : Word :=
  if kind = 2 then 0x0001 else if kind = 3 then 0x0003 else 0x0007

/-- Every spare bit of a message is 0, its body words laid out by these fields (R187). -/
def RawMessage.SpareZero (m : RawMessage) (fields : List Word) : Prop :=
  m.header &&& headerSpare m.kind = 0 ∧
    ∀ (i : Nat) (w f : Word), m.body[i]? = some w → fields[i]? = some f → w &&& ~~~f &&& 0x7FFF = 0

/-- A message's kind, presence marks and body words on the wire (Table 10-12), its fields in the ranges of
Table 8-3. -/
def MessageBody.Form (kind : BitVec 4) (first second : Bool) (body : List Word) : MessageBody → Prop
  | .opportunity d => kind = 1 ∧ (d = 0 ∨ 100 ≤ d) ∧ d ≤ 32767 ∧ body = [BitVec.ofNat 16 d]
  | .complete c => kind = 2 ∧ first = c.rate.isSome ∧ second = c.backlog.isSome ∧
      c.ticket ≤ 23 ∧ c.used ≤ 32767 ∧ c.sent ≤ 64 ∧ c.acked ≤ c.sent ∧
      (∀ r, c.rate = some r → r ≤ 30000) ∧ (∀ n, c.backlog = some n → n ≤ 1023) ∧
      body = [BitVec.ofNat 16 (c.ticket + 32 * c.seq.toNat), BitVec.ofNat 16 c.used,
        BitVec.ofNat 16 (c.sent + 128 * c.acked)] ++
        c.rate.toList.map (BitVec.ofNat 16) ++ c.backlog.toList.map (BitVec.ofNat 16)
  | .heard h => kind = 3 ∧ first = h.rate.isSome ∧ (∀ r, h.rate = some r → r ≤ 30000) ∧
      body = [BitVec.ofNat 16 (h.address.toNat / 2 ^ 36),
        BitVec.ofNat 16 (h.address.toNat / 2 ^ 24 % 2 ^ 12),
        BitVec.ofNat 16 (h.address.toNat / 2 ^ 12 % 2 ^ 12), BitVec.ofNat 16 (h.address.toNat % 2 ^ 12),
        (match h.kind with
          | .mgmt => 0
          | .data => 1
          | .ctrl => 2) + (match h.psMark with
          | .awake => 0
          | .asleep => 4)] ++ h.rate.toList.map (BitVec.ofNat 16)
  | .demand h n => kind = 4 ∧ h ≤ 639 ∧ n ≤ 1023 ∧ body = [BitVec.ofNat 16 h, BitVec.ofNat 16 n]
  | .quiet d => kind = 5 ∧ d ≤ 65535 ∧
      body = [BitVec.ofNat 16 (d / 2 ^ 15), BitVec.ofNat 16 (d % 2 ^ 15)]
  | .resync => kind = 6 ∧ body = []

/-! ### The visits of an OPPORTUNITY -/

/-- A balance after a visit to a record below its class ticket cap, by its quantum × weight and its class
balance cap: topped up when it is 0 or below (R81), else as it is (R104). -/
def visitedBalance (gain cap : Nat) (b : Int) : Int := if b ≤ 0 then min (b + gain) cap else b

/-- How many of the first `n` visits of a list's turn are to a handle: each visit is to the head, which then
goes to the tail (R93). -/
def visitsTo (l : List Nat) (n h : Nat) : Nat :=
  (List.range n).countP fun j => l[j % l.length]? == some h

/-- What `visits` visits to each class's list, the last of them a grant to `granted` where there is one,
leave of the lists and the balances (R81, R93, R104 to R106): each list is rotated once for each visit; a
record at its class ticket cap is left as it is; any other is topped up at each visit that finds its
balance 0 or below, and every visit but the grant's finds it so. -/
structure Visited (s t : State) (visits : Cls → Nat) (granted : Option Nat) : Prop where
  rotated : ∀ c, t.lists.get c = (s.lists.get c).rotate (visits c)
  capped : ∀ h r u, s.record h = some r → t.record h = some u →
    (s.classSettings r.cls).ticketCap ≤ r.held → u.balance = r.balance
  toppedUp : ∀ h r u k e, s.record h = some r → t.record h = some u →
    r.held < (s.classSettings r.cls).ticketCap → s.settings.tierOf r.rate = some (k, e) →
    let visit := visitedBalance (e.quantum * r.weight) (s.classSettings r.cls).balanceCap
    let n := visitsTo (s.lists.get r.cls) (visits r.cls) h
    u.balance = visit^[n] r.balance ∧
      ∀ j, (j + 1 < n ∨ (j + 1 = n ∧ granted ≠ some h)) → visit^[j] r.balance ≤ 0

/-- The visits of a turn that ends without a grant: twice the list's length, within what the turns before
leave of the 64 (R103, R107). -/
def fullTurn (s : State) (visits : Cls → Nat) (before : List Cls) (c : Cls) : Nat :=
  min (2 * (s.lists.get c).length) (64 - (before.map visits).sum)

/-! ### Messages on the Medium Port -/

/-- A message that arrives joins the inbound queue's tail while it holds fewer than 16 (R160). -/
def arrivedQueue (q : List RawMessage) (m : RawMessage) : List RawMessage :=
  if q.length < 16 then q ++ [m] else q

/-- The overrun mark after a message arrives: set when the queue already holds 16 (R160, R161). -/
def arrivedMark (q : List RawMessage) (mark : Bool) : Bool := if q.length < 16 then mark else true

/-! ### The judgement of eligibility -/

/-- A class's list after the eligibility of one record has been judged (R92): the handle joins the tail,
leaves, or stays as it is. -/
def judgedList (l : List Nat) (h : Nat) (eligible : Bool) : List Nat :=
  if eligible then if l.contains h then l else l ++ [h] else l.erase h

/-- The background-skip counter after one record of a class has been judged: 0 when this leaves the
BACKGROUND list empty that was not (R102). -/
def judgedSkip (s : State) (c : Cls) (h : Nat) (eligible : Bool) : Nat :=
  if c = .background ∧ s.lists.background ≠ [] ∧ judgedList s.lists.background h eligible = [] then 0
  else s.skip

/-- One record has been judged, and no other list changes (R92, R102). -/
structure Judged (s t : State) (c : Cls) (h : Nat) (eligible : Bool) : Prop where
  own : t.lists.get c = judgedList (s.lists.get c) h eligible
  others : OtherListsSame c s t
  skip : t.skip = judgedSkip s c h eligible

/-! ### The laws of the part -/

/-- R119: every one of the 24 tickets is either in the free pool or ISSUED, and the pool holds no ticket
twice. -/
structure State.PoolLaw (s : State) : Prop where
  nodup : s.pool.Nodup
  exact : ∀ n, n ∈ s.pool ↔ n < 24 ∧ (s.ticket n).issued = false

/-- The tickets ISSUED to a handle (R120). -/
def State.issuedTo (s : State) (h : Nat) : Nat :=
  s.tickets.toList.countP fun t =>
    match t.issue with
    | some i => i.holder == h
    | none => false

/-- The settings of every class are in their ranges (R33, Table 2-4), with the initial balance at most the
balance cap. -/
def ClassSettings.InRange (c : ClassSettings) : Prop :=
  c.capacity ≤ 640 ∧ 1 ≤ c.lingerReload ∧ c.lingerReload ≤ 65535 ∧ 1 ≤ c.ticketCap ∧ c.ticketCap ≤ 4
    ∧ c.initialBalance ≤ c.balanceCap ∧ 1000 ≤ c.balanceCap ∧ c.balanceCap ≤ 32767

/-- The settings of every class are in range, also after a SET_CLASS that the port holds (R34, R35). -/
structure State.ClassSettingsLaw (s : State) : Prop where
  inRange : ∀ c, (s.classSettings c).InRange
  held : ∀ c i, s.req.port = .working (.setClass c i) → (i.apply (s.classSettings c)).InRange

/-- R120, R12, R13: tickets held counts the tickets ISSUED to a record and is at most 4; a FREE record is
the holder of no ISSUED ticket; a RETIRING record holds at least one. -/
structure State.HolderLaw (s : State) : Prop where
  held : ∀ h r, s.record h = some r → r.held = s.issuedTo h
  free : ∀ h, s.record h = none → s.issuedTo h = 0
  most : ∀ h r, s.record h = some r → r.held ≤ 4
  draining : ∀ h r, s.record h = some r → r.living = false → 0 < r.held

/-- R91: a record is in a service list exactly when it is ACTIVE with backlog above 0, and then in the list
of its own class only, and only once. -/
structure State.ListLaw (s : State) : Prop where
  nodup : ∀ c, (s.lists.get c).Nodup
  exact : ∀ h c, h ∈ s.lists.get c ↔ ∃ r, s.record h = some r ∧ r.cls = c ∧ r.eligible = true

/-- R14: no two records of the index share a station address. -/
def State.IndexLaw (s : State) : Prop :=
  ∀ h k r q, s.record h = some r → s.record k = some q → r.living = true → q.living = true →
    r.address = q.address → h = k

/-- R57: the Stranger Filter holds at most 8 addresses, all different, none of them the address of a record
in the index. -/
structure State.FilterLaw (s : State) : Prop where
  short : s.strangers.length ≤ 8
  nodup : s.strangers.Nodup
  strange : ∀ h r, s.record h = some r → r.living = true → r.address ∉ s.strangers

/-- R32: the occupancy of a class never exceeds its capacity. -/
def State.OccupancyLaw (s : State) : Prop := ∀ c, s.occupancy c ≤ (s.classSettings c).capacity

/-- R86: every balance lies between −32,768 and the balance cap of its class, and the lowest-balance
watermark lies between −32,768 and the balance. -/
def State.BalanceLaw (s : State) : Prop :=
  ∀ h r, s.record h = some r →
    -32768 ≤ r.lowest ∧ r.lowest ≤ r.balance ∧ r.balance ≤ (s.classSettings r.cls).balanceCap

/-- R74: the valid entries are contiguous from entry 0, their rate limits rise strictly, and the values of
each are in range, the crowded burst cap at most the burst cap. -/
structure Settings.TierLaw (t : Settings) : Prop where
  first : (t.tier 0).isSome = true
  contiguous : ∀ k, (t.tier (k + 1)).isSome = true → (t.tier k).isSome = true
  rising : ∀ k d e, t.tier k = some d → t.tier (k + 1) = some e → d.rateLimit < e.rateLimit
  inRange : ∀ k e, t.tier k = some e → e.inRange = true

/-- The Tier Table is well formed, and a SET_TIER WRITE that the port holds has passed its field checks
(R74, R77). -/
structure State.TierTableLaw (s : State) : Prop where
  table : s.settings.TierLaw
  held : ∀ k e, s.req.port = .working (.setTierWrite k e) → e.inRange = true

/-- R160, R162, R163, R171: the inbound queue holds at most 16 messages, the answer queue at most 16
answers with the place of the answer being worked kept free, and the Notice Queue at most 32 notices. -/
structure State.QueueLaw (s : State) : Prop where
  inbound : s.medium.inbound.length ≤ 16
  answers : s.medium.answers.length + s.medium.work.isSome.toNat ≤ 16
  notices : s.notices.queue.length ≤ 32

/-- R121: while the Medium Engine is in AWAIT_RESYNC every ticket is FREE; the only message it can then
hold is a RESYNC (R165). -/
structure State.AwaitLaw (s : State) : Prop where
  free : s.medium.engine = .awaitResync → ∀ n, (s.ticket n).issued = false
  work : s.medium.engine = .awaitResync → ∀ m, s.medium.work = some m → m.body = .resync

/-- R100, R102: the background-skip counter is at most 255, and 0 whenever the BACKGROUND list is empty. -/
structure State.SkipLaw (s : State) : Prop where
  most : s.skip ≤ 255
  empty : s.lists.background = [] → s.skip = 0

/-- R19: while the table is free no client waits for it; the client that holds it has work that needs it
and is the one served most recently. -/
structure State.ArbiterLaw (s : State) : Prop where
  free : s.arbiter.holder = none → ∀ c, s.asking c = false
  held : ∀ c, s.arbiter.holder = some c → s.asking c = true ∧ s.arbiter.lastServed = c

/-- R173, R174, R175: ATTN is asserted whenever the notices held reach the coalesce count, and the
coalescing timer runs exactly while notices are held with ATTN released; the coalesce count is in range,
also after a SET_NOTICE that the port holds. -/
structure State.AttentionLaw (s : State) : Prop where
  reached : s.settings.notice.coalesceCount ≤ s.notices.queue.length → s.notices.attn = true
  timer : s.notices.timer.isSome = true ↔ s.notices.attn = false ∧ s.notices.queue ≠ []
  count : 1 ≤ s.settings.notice.coalesceCount ∧ s.settings.notice.coalesceCount ≤ 32
  held : ∀ i n, s.req.port = .working (.setNotice i) → i.coalesceCount = some n → 1 ≤ n ∧ n ≤ 32

/-- R142, R148, R150, R152, R154: the countdown is 0 whenever the state is CALM; the state is CALM in mode
OFF; the usages and the hold counter keep their ranges, also after a HOLD that the port holds; the exit
threshold is below the enter threshold, also after a SET_GOVERNOR that the port holds. -/
structure State.GovernorLaw (s : State) : Prop where
  calm : s.gov.load = .calm → s.gov.countdown = 0
  off : s.settings.governor.mode = false → s.gov.load = .calm
  window : s.gov.windowUsage ≤ 16777215
  podium : s.gov.podiumUsage ≤ 16777215
  hold : s.gov.hold ≤ 4000000
  heldHold : ∀ ms, s.req.port = .working (.hold ms) → ms ≤ 4000
  thresholds : s.settings.governor.exit < s.settings.governor.enter
  held : ∀ i, s.req.port = .working (.setGovernor i) →
    (i.apply s.settings.governor).exit < (i.apply s.settings.governor).enter

/-- R170: the run of µs within the current ms is less than a ms. -/
def State.TimebaseLaw (s : State) : Prop := s.time.frac < 1000

/-- Every law above at once. -/
structure State.Lawful (s : State) : Prop where
  pool : s.PoolLaw
  classSettings : s.ClassSettingsLaw
  holder : s.HolderLaw
  list : s.ListLaw
  index : s.IndexLaw
  filter : s.FilterLaw
  occupancy : s.OccupancyLaw
  balance : s.BalanceLaw
  tier : s.TierTableLaw
  queue : s.QueueLaw
  await : s.AwaitLaw
  skip : s.SkipLaw
  arbiter : s.ArbiterLaw
  attention : s.AttentionLaw
  governor : s.GovernorLaw
  timebase : s.TimebaseLaw

/-- A record has the values of Table 2-3, freshly admitted into a class with these settings. -/
structure Record.FreshFor (r : Record) (a : Admission) (c : ClassSettings) : Prop where
  state : r.state = .active
  identity : r.address = a.address ∧ r.cls = a.cls ∧ r.weight = a.weight ∧ r.label = a.label
  overrides : r.lingerOverride = a.lingerOverride ∧ r.burstOverride = a.burstOverride
  presence : r.psMark = .awake ∧ r.aged = false ∧ r.rate = 0
  linger : r.linger = a.lingerOverride.getD c.lingerReload
  account : r.balance = c.initialBalance ∧ r.lowest = c.initialBalance ∧ r.consumed = 0
  counts : r.backlog = 0 ∧ r.highest = 0 ∧ r.held = 0 ∧ r.grantCount = 0

end Sys2Proof.Machine
end

