-- ==== Sys2Proof/Certificates/Slice0/Obligations.lean ====
section
/-! DEFINITION. The statements for the provers: what each command does to every part of the state, and the
laws of the part that every step keeps. -/

open Sys2Proof Sys2Proof.Machine

/-! ### The step -/

/-- A step runs the command at the front of the queue on the state with the queue's rest. -/
def Obligations.StepRunsFrontCommand : Prop :=
  ∀ (c : Instr) (rest : List Instr) (s : State),
    step { s with pending := c :: rest } = exec c { s with pending := rest }

/-- With no command waiting a step is the part's own next step where it has one, one µs where it has none,
and nothing in reset (R18, R19, R130, R144, R163, R170, R173). By themselves happen: the execution of a
request without a transaction; the end of a window and the expiry of the coalescing timer when their time
is up; then, of the clients that come to ask, the rotation's first: the Medium Engine takes a message as
soon as it can, the Ticket Timer asks when a ticket is due, the Sweeper when its period is over; then the
work of the client that holds the table. The cyclic order is Medium Engine, Request Engine, Ticket Timer,
Sweeper, from the one after the client served most recently (R19). That a command of its own stands for
each, and the order of those that fall together, the rotation apart, are the model's choice (log entry
1). -/
def Obligations.StepOnEmptyQueue : Prop :=
  (∀ s : State, s.pending = [] →
    (s.inReset = true → step s = .next s) ∧
    (∀ c, s.ownStep = some c → step s = exec c s) ∧
    (s.inReset = false → s.ownStep = none → ∃ t, step s = .next t ∧ TimePassed 1 s t)) ∧
  Client.mediumEngine.after = [.requestEngine, .ticketTimer, .sweeper, .mediumEngine] ∧
  Client.requestEngine.after = [.ticketTimer, .sweeper, .mediumEngine, .requestEngine] ∧
  Client.ticketTimer.after = [.sweeper, .mediumEngine, .requestEngine, .ticketTimer] ∧
  Client.sweeper.after = [.mediumEngine, .requestEngine, .ticketTimer, .sweeper] ∧
  (∀ s : State, s.inReset = true → s.ownStep = none) ∧
  (∀ (s : State) (r : Request), s.HostWorking r → r.usesTable = false →
    s.ownStep = some r.command) ∧
  (∀ s : State, s.inReset = false → (∀ r, s.req.port = .working r → r.usesTable = true) →
    let due : Prop := ∃ n i, (s.ticket n).issue = some i ∧ i.left ≤ 0
    let comes : Client → Prop := fun c =>
      (c = .mediumEngine ∧ s.medium.work = none ∧ s.medium.answers.length < 16 ∧
        s.medium.inbound ≠ []) ∨
      (c = .ticketTimer ∧ s.timerAsked = false ∧ due) ∨
      (c = .sweeper ∧ s.sweeper.periodLeft = 0)
    (s.gov.windowLeft = 0 → s.ownStep = some .windowEnd) ∧
    (s.gov.windowLeft ≠ 0 → s.notices.timer = some 0 → s.ownStep = some .coalesceTimerExpiry) ∧
    (s.gov.windowLeft ≠ 0 → s.notices.timer ≠ some 0 →
      (∀ front c back, s.arbiter.lastServed.after = front ++ c :: back → comes c →
        (∀ d ∈ front, ¬ comes d) → s.ownStep = some (match c with
          | .mediumEngine => .messageTake
          | .ticketTimer => .ticketDue
          | .requestEngine | .sweeper => .periodTimerExpiry)) ∧
      ((∀ c, ¬ comes c) →
        (s.arbiter.holder = none → s.ownStep = none) ∧
        (∀ m, s.arbiter.holder = some .mediumEngine → s.medium.work = some m →
          s.ownStep = m.body.command) ∧
        (∀ r, s.arbiter.holder = some .requestEngine → s.req.port = .working r →
          s.ownStep = some r.command) ∧
        (s.arbiter.holder = some .ticketTimer → s.timerAsked = true → s.ownStep = some .expiry) ∧
        (s.arbiter.holder = some .sweeper → s.sweeper.pass ≠ none →
          s.ownStep = some .sweeperStep))))

/-- A command that names a timed event (log entry 3, the model's choice): where the event is not to come it
changes nothing; before its moment the part is left to itself up to it, first for what happens now, and
then, unless that has put the event off, the event happens as it does at its moment. Through all but
HOLD_COUNTER_EXPIRY a running pass may last. -/
def Obligations.TimedCommandsReachTheirEvent : Prop :=
  ∀ s : State, s.inReset = false →
    ∀ p ∈ [(Instr.ticketDue, State.heldStep, State.deadlineLeft),
      (.periodTimerExpiry, State.heldStep, State.periodLeft),
      (.windowEnd, State.heldStep, State.windowLeft), (.holdCounterExpiry, State.ownStep, State.holdLeft),
      (.coalesceTimerExpiry, State.heldStep, State.coalesceLeft)],
      let c := p.1
      let own := p.2.1
      let left := p.2.2
      (left s = none → exec c s = .next s) ∧
      (∀ n, left s = some (n + 1) →
        (left (s.settled own) = none → exec c s = .next (s.settled own)) ∧
        (∀ m, left (s.settled own) = some m →
          let u := (s.settled own).elapse own m
          (left u = some 0 → exec c s = exec c u) ∧ (left u ≠ some 0 → exec c s = .next u)))

/-- The part left to itself (R130, R144, R154, R163; log entries 1 and 3): µs by µs, what happens by itself
is worked at its moment, as the commands that stand for it work it, and then the µs passes. In a time in
which nothing comes up, nothing but the time changes. On a loaded part (heldStep) a pass lasts: its step
ends only when another client waits for the table (the model's choice, log entry 3). That a moment's own
steps are cut off at 1,024 is the model's too (log entry 14). -/
def Obligations.TimeGoesOn : Prop :=
  (∀ s : State,
    (s.ownStep ≠ some .sweeperStep → s.heldStep = s.ownStep) ∧
    (s.ownStep = some .sweeperStep →
      ((∃ c, c ≠ .sweeper ∧ s.asking c = true) → s.heldStep = some .sweeperStep) ∧
      ((∀ c, c ≠ .sweeper → s.asking c = false) → s.heldStep = none))) ∧
  ∀ own ∈ [State.ownStep, State.heldStep], ∀ s : State,
    s.elapse own 0 = s ∧
    (∀ n, s.elapse own (n + 1) = ((s.settled own).passTime 1).elapse own n) ∧
    (∀ n, TimePassed n s (s.passTime n)) ∧
    s.settled own = State.settle own 1024 s ∧ State.settle own 0 s = s ∧
    (∀ n, own s = none → State.settle own n s = s) ∧
    (∀ n c t, own s = some c → exec c s = .next t →
      State.settle own (n + 1) s = State.settle own n t) ∧
    (∀ n, own s = none → s.TimebaseLaw → n ≤ s.gov.windowLeft → n ≤ s.sweeper.periodLeft →
      (∀ k, s.notices.timer = some k → n ≤ k) →
      (∀ k i, (s.ticket k).issue = some i → (n : Int) ≤ i.left) → s.elapse own n = s.passTime n)

/-- Every command, in every state, answers a next state, with the queue as it was: none faults and none is
refused. That a command whose event cannot happen also answers a next state is the model's choice (log
entry 2), as is what the operations do where no run leads (log entry 12). -/
def Obligations.EveryCommandAnswersNext : Prop :=
  ∀ (c : Instr) (s : State), ∃ t, exec c s = .next t ∧ t.pending = s.pending

/-- Commands whose event cannot happen change nothing (the model's choice, log entries 2 and 7): every
command but HARD_RESET while the part is held in reset; a transaction of a client that does not hold the
table; a request that the port does not execute; the taking of a message that cannot be taken. -/
def Obligations.CommandsWithoutTheirEvent : Prop :=
  ∀ s : State,
    (∀ c, (∀ p q, c ≠ .hardReset p q) → s.inReset = true → exec c s = .next s) ∧
    (s.arbiter.holder ≠ some .mediumEngine →
      ∀ c ∈ [Instr.opportunity, .complete, .heard, .demand, .resync], exec c s = .next s) ∧
    (s.arbiter.holder ≠ some .requestEngine →
      ∀ c ∈ [Instr.admitStation, .amend, .retire, .lookup, .readRecord, .list, .readTickets, .setClass,
        .setTierWrite, .setTierInvalidate, .setScheduler, .resetFull, .resetAccounts],
        exec c s = .next s) ∧
    ((∀ r, s.req.port ≠ .working r) →
      ∀ c ∈ [Instr.identify, .setPresence, .setGovernor, .setNotice, .readSettings, .readGovernor, .hold,
        .fetchNotices, .admitStation, .amend, .retire, .lookup, .readRecord, .list, .readTickets,
        .setClass, .setTierWrite, .setTierInvalidate, .setScheduler, .resetFull, .resetAccounts],
        exec c s = .next s) ∧
    (s.arbiter.holder ≠ some .ticketTimer → exec .expiry s = .next s) ∧
    (s.arbiter.holder ≠ some .sweeper → exec .sweeperStep s = .next s) ∧
    (s.medium.work.isSome = true ∨ 16 ≤ s.medium.answers.length ∨ s.medium.inbound = [] →
      exec .messageTake s = .next s)

/-! ### Resets -/

/-- The machine right after a power-on reset: records FREE (R25), lists empty (R90), tickets FREE with
sequence 0 and the pool ascending (R121), the arbiter at R19, the Medium Engine in AWAIT_RESYNC with empty
queues (R169), the governor (R142) and Sweeper (R63) at their reset values, the filter (R58) and Notice
Queue (R176) empty, the port IDLE with CSn not yet seen high (R177, R181), and every setting at its reset
value (R33, R73, R114, R71, R152, R175). -/
def Obligations.ResetValues : Prop :=
  (∀ h, State.reset.record h = none) ∧
  (∀ c, State.reset.lists.get c = []) ∧ State.reset.skip = 0 ∧
  (∀ n, State.reset.ticket n = ⟨0, none⟩) ∧ State.reset.pool = List.range 24 ∧
  State.reset.timerAsked = false ∧ State.reset.arbiter = ⟨none, .sweeper⟩ ∧
  State.reset.medium = ⟨none, [], [], 0, false, .awaitResync, none⟩ ∧
  State.reset.gov = ⟨.calm, 0, 0, 0, 0, 0, 100000, 0⟩ ∧
  State.reset.sweeper = ⟨1000000, none⟩ ∧ State.reset.strangers = [] ∧
  State.reset.notices = ⟨[], false, none, false⟩ ∧
  State.reset.req.port = .idle ∧ State.reset.req.csnSeen = false ∧
  State.reset.time.us = 0 ∧ State.reset.time.ms = 0 ∧ State.reset.resetRecord = ⟨.powerOn, 0⟩ ∧
  State.reset.classSettings .podium = ⟨16, 7200, false, 4, 8000, 32767⟩ ∧
  State.reset.classSettings .seat = ⟨640, 900, true, 2, 2000, 16000⟩ ∧
  State.reset.classSettings .background = ⟨640, 300, true, 1, 0, 8000⟩ ∧
  State.reset.settings.tier 0 = some ⟨30000, 500, 4000, 2000, 32⟩ ∧
  (∀ k, 0 < k → State.reset.settings.tier k = none) ∧
  State.reset.settings.scheduler = ⟨20, 40, 16⟩ ∧
  State.reset.settings.presence = ⟨1000, true, false, false⟩ ∧
  State.reset.settings.governor = ⟨true, 100, 85, 70, 20⟩ ∧
  State.reset.settings.notice = ⟨4, 50⟩

/-- The laws of the part hold right after reset. -/
def Obligations.ResetIsLawful : Prop := State.reset.Lawful

/-- HARD_RESET (R20, R25, R183): while a reset input holds, every block stands at its reset values and the
reset cause record is written: POWER_ON and 0 when the power-on detector holds, PIN and the number of
tickets ISSUED as a reset on RSTn alone falls. Letting go of both leaves the part as it stands, and RSTn
alone while the part is already held leaves the record (the model's reading, log entry 7). -/
def Obligations.HardReset : Prop :=
  ∀ (s : State) (powerOn pin : Bool), ∃ t, exec (.hardReset powerOn pin) s = .next t ∧
    t.pins = ⟨powerOn, pin⟩ ∧
    (powerOn = true ∨ pin = true → t.pending = s.pending ∧
      UnchangedExcept [.pending, .pins, .resetRecord] State.reset t) ∧
    (powerOn = true → t.resetRecord = ⟨.powerOn, 0⟩) ∧
    (powerOn = false → pin = true → s.inReset = false →
      t.resetRecord = ⟨.pin, (s.tickets.toList.filter fun x => x.issue.isSome).length⟩) ∧
    (powerOn = false → pin = true → s.inReset = true → t.resetRecord = s.resetRecord) ∧
    (powerOn = false → pin = false → UnchangedExcept [.pins] s t)

/-- R176: a hard reset and RESET FULL empty the Notice Queue, clear the overflow mark, stop the timer,
release ATTN, give the notice settings their reset values and restart the ms time at 0. -/
def Obligations.ResetsNoticeQueue : Prop :=
  (∀ (s : State) (powerOn pin : Bool), powerOn = true ∨ pin = true →
    ∃ t, exec (.hardReset powerOn pin) s = .next t ∧ t.notices.queue = [] ∧
      t.notices.overflow = false ∧ t.notices.timer = none ∧ t.notices.attn = false ∧
      t.settings.notice.coalesceCount = 4 ∧ t.settings.notice.coalesceTime = 50 ∧ t.time.ms = 0) ∧
  (∀ s : State, s.HostReady .resetFull →
    ∃ t, exec .resetFull s = .next t ∧ t.notices.queue = [] ∧
      t.notices.overflow = false ∧ t.notices.timer = none ∧ t.notices.attn = false ∧
      t.settings.notice.coalesceCount = 4 ∧ t.settings.notice.coalesceTime = 50 ∧ t.time.ms = 0)

/-- RESET FULL (R184, R20): the reset cause record becomes REQUEST with the number of tickets ISSUED, every
block takes its reset values, and the DONE answer is placed; the link goes on as it was. -/
def Obligations.ResetFull : Prop :=
  ∀ s : State, s.HostReady .resetFull → ∃ t, exec .resetFull s = .next t ∧
    t.resetRecord = ⟨.request, (s.tickets.toList.filter fun x => x.issue.isSome).length⟩ ∧
    HostAnswered s t .done ∧ t.pins = s.pins ∧ t.pending = s.pending ∧
    UnchangedExcept [.resetRecord, .req, .pins, .pending] State.reset t

/-- RESET ACCOUNTS (R87, R88, R151): every record's balance becomes its class's initial balance, consumed
and grant count 0, and the watermarks the balance and backlog; the background-skip counter and the
governor's usage, busiest mark and countdown become 0 and its state CALM; nothing else changes. -/
def Obligations.ResetAccounts : Prop :=
  ∀ s : State, s.HostReady .resetAccounts → ∃ t, exec .resetAccounts s = .next t ∧
    EndsHost s t .done [.records, .skip, .gov] ∧
    (∀ h, t.record h = (s.record h).map fun r => { r with
      balance := (s.classSettings r.cls).initialBalance
      lowest := (s.classSettings r.cls).initialBalance
      consumed := 0
      grantCount := 0
      highest := r.backlog }) ∧
    t.skip = 0 ∧
    t.gov = { s.gov with
      load := .calm, countdown := 0, windowUsage := 0, podiumUsage := 0, busiest := 0 }

/-! ### The Medium Port -/

/-- A word on MIN_D with MIN_WR (R158 to R161). A body word with no message in assembly is discarded and the
overrun mark set; otherwise it joins the message, which arrives when it holds the body words its header
declared. A header word lets a message in assembly arrive cut short; then the new message starts its
assembly, or arrives at once when its header declares no body word. A message that arrives at a queue of
16 is discarded and the mark set. The three MIN_WR commands are one strobe (log entry 6). MIN_FULL is
asserted exactly while the inbound queue holds 16 messages. -/
def Obligations.WriteWord : Prop :=
  (∀ s : State, s.medium.inbound.length ≤ 16 →
    (s.minFull = true ↔ s.medium.inbound.length = 16)) ∧
  (∀ (s : State) (w : Word), s.inReset = false → w.getLsbD 15 = false →
    ∀ c ∈ [Instr.strayBodyWord w, .assemblyWord w, .messageArrival w],
      ∃ t, exec c s = .next t ∧ UnchangedExcept [.medium] s t ∧
        (s.medium.assembly = none → t.medium = { s.medium with overrun := true }) ∧
        (∀ m, s.medium.assembly = some m → m.body.length + 1 < declaredWords m.header →
          t.medium = { s.medium with assembly := some ⟨m.header, m.body ++ [w]⟩ }) ∧
        (∀ m, s.medium.assembly = some m → declaredWords m.header ≤ m.body.length + 1 →
          t.medium = { s.medium with
            assembly := none
            inbound := arrivedQueue s.medium.inbound ⟨m.header, m.body ++ [w]⟩
            overrun := arrivedMark s.medium.inbound s.medium.overrun })) ∧
  (∀ (s : State) (w : Word), s.inReset = false → w.getLsbD 15 = true →
    ∀ c ∈ [Instr.strayBodyWord w, .assemblyWord w, .messageArrival w],
      ∃ t, exec c s = .next t ∧ UnchangedExcept [.medium] s t ∧
        ∃ q mark,
          (s.medium.assembly = none → q = s.medium.inbound ∧ mark = s.medium.overrun) ∧
          (∀ m, s.medium.assembly = some m → q = arrivedQueue s.medium.inbound m ∧
            mark = arrivedMark s.medium.inbound s.medium.overrun) ∧
          (0 < declaredWords w → t.medium = { s.medium with
            assembly := some ⟨w, []⟩, inbound := q, overrun := mark }) ∧
          (declaredWords w = 0 → t.medium = { s.medium with
            assembly := none, inbound := arrivedQueue q ⟨w, []⟩, overrun := arrivedMark q mark }))

/-- ANSWER_WORD_READ (R162): a strobe takes the presented word of the head answer; the strobe that takes its
last word removes the answer; a strobe on an empty queue is not taken, and MOUT_D holds 0. -/
def Obligations.AnswerWordRead : Prop :=
  ∀ s : State, s.inReset = false → ∃ t, exec .answerWordRead s = .next t ∧
    UnchangedExcept [.medium] s t ∧
    (s.medium.answers = [] → t = s ∧ s.moutD = 0 ∧ s.moutValid = false) ∧
    (∀ a rest, s.medium.answers = a :: rest → s.medium.headRead + 1 < a.words.length →
      t.medium = { s.medium with headRead := s.medium.headRead + 1 } ∧
      t.moutD = a.words.getD (s.medium.headRead + 1) 0 ∧ t.moutValid = true) ∧
    (∀ a rest, s.medium.answers = a :: rest → a.words.length ≤ s.medium.headRead + 1 →
      t.medium = { s.medium with answers := rest, headRead := 0 } ∧
      (∀ b others, rest = b :: others → t.moutD = b.words.getD 0 0) ∧
      (rest = [] → t.moutValid = false))

/-- The words of the answers on the Medium Port (R162, R187, Tables 10-11, 10-13): the header with the
start mark, the kind, the tag, the overrun flag and the number of body words, then the body words. That
spare bits of an answer are 0 is the model's choice (log entry 16). -/
def Obligations.MediumAnswersOnTheWire : Prop :=
  let ticket : Nat → BitVec 8 → Nat := fun n q => n + 2 ^ 5 * q.toNat
  let address : Address → List Nat := fun a =>
    [a.toNat / 2 ^ 36, a.toNat / 2 ^ 24 % 2 ^ 12, a.toNat / 2 ^ 12 % 2 ^ 12, a.toNat % 2 ^ 12]
  let laid : MediumAnswer → Nat → List Nat → Prop := fun a kind body =>
    ∀ (tag : BitVec 4) (overrun : Bool), QueuedAnswer.words ⟨tag, overrun, a⟩ =
      ((2 ^ 15 + kind * 2 ^ 11 + tag.toNat * 2 ^ 7 + overrun.toNat * 2 ^ 6 + body.length * 2 ^ 2) ::
        body).map (BitVec.ofNat 16)
  (∀ n q h a limit cap, laid (.grant n q h a limit cap) 1
    (ticket n q :: h :: address a ++ [limit, cap])) ∧
  (∀ d, laid (.hold d) 2 [d / 2 ^ 15, d % 2 ^ 15]) ∧ laid .noTicket 3 [] ∧ laid .nothing 4 [] ∧
  (∀ v, laid (.defer v) 5 [v]) ∧ (∀ h, laid (.done (some h)) 6 [h]) ∧ laid (.done none) 6 [] ∧
  (∀ n q, laid (.stale n q) 7 [ticket n q]) ∧ (∀ h, laid (.known h) 8 [h]) ∧ laid .unknown 9 [] ∧
  laid .notLive 10 [] ∧ (∀ n, laid (.resynced n) 11 [n]) ∧
  (∀ k : BitVec 4, laid (.needResync k) 12 [k.toNat]) ∧
  (∀ (k : BitVec 4) (why : BadReason), laid (.badMessage k why) 13
    [k.toNat + 2 ^ 4 * (match why with
      | .kind => 0
      | .length => 1
      | .spare => 2
      | .range => 3)])

/-- MESSAGE_TAKE (R163, R165, R166, R168, R155). In AWAIT_RESYNC any kind but RESYNC is answered NEED_RESYNC;
else a message that fails a check of form is answered BAD_MESSAGE with its reason, and nothing else
changes; a QUIET loads the hold counter and is answered DONE at once; any other message is held while the
Medium Engine asks for the table. A message taken from a queue of at most 16 leaves MIN_FULL low (R160). -/
def Obligations.MessageTake : Prop :=
  (∀ (s : State) (m : RawMessage) (rest : List RawMessage), s.inReset = false →
    s.medium.work = none → s.medium.answers.length < 16 → s.medium.inbound = m :: rest →
    s.medium.inbound.length ≤ 16 →
    ∃ t, exec .messageTake s = .next t ∧ t.medium.inbound = rest ∧ t.minFull = false) ∧
  (∀ (s : State) (m : RawMessage) (rest : List RawMessage), s.inReset = false →
    s.medium.work = none → s.medium.answers.length < 16 → s.medium.inbound = m :: rest →
    let s' := { s with medium := { s.medium with inbound := rest } }
    (s.medium.engine = .awaitResync → m.kind ≠ 6 →
      ∃ t, exec .messageTake s = .next t ∧ MediumAnswered s' t m.tag (.needResync m.kind) ∧
        UnchangedExcept [.medium] s t) ∧
    (s.medium.engine = .running ∨ m.kind = 6 → ∀ reason, m.check = .error reason →
      ∃ t, exec .messageTake s = .next t ∧
        MediumAnswered s' t m.tag (.badMessage m.kind reason) ∧ UnchangedExcept [.medium] s t)) ∧
  (∀ (s : State) (m : RawMessage) (rest : List RawMessage), s.inReset = false →
    s.medium.work = none → s.medium.answers.length < 16 → s.medium.inbound = m :: rest →
    s.medium.engine = .running ∨ m.kind = 6 →
    let s' := { s with medium := { s.medium with inbound := rest } }
    (∀ d, m.check = .ok (.quiet d) → ∃ t, exec .messageTake s = .next t ∧
      MediumAnswered s' t m.tag (.done none) ∧ t.gov = { s.gov with hold := d } ∧
      UnchangedExcept [.medium, .gov] s t) ∧
    (∀ b, m.check = .ok b → (∀ d, b ≠ .quiet d) → ∃ t, exec .messageTake s = .next t ∧
      t.medium = { s.medium with inbound := rest, work := some ⟨m.tag, b⟩ } ∧
      TableAsked s t .mediumEngine ∧ UnchangedExcept [.medium, .arbiter] s t))

/-- The checks of form (R166, R167, R187), in the order of Table 8-2: KIND for a kind the part does not know;
LENGTH where the body words declared are not those of the kind for the optional fields named, or the
message was cut short; SPARE where a spare bit is set; then the message it is, its fields as Table 10-12
lays them out and in the ranges of Table 8-3, and RANGE where it is none. The header's parts stand where
Table 10-11 puts them. -/
def Obligations.MessagesChecked : Prop :=
  ∀ m : RawMessage, (∀ w ∈ m.body, w.getLsbD 15 = false) →
    m.kind.toNat = m.header.toNat / 2 ^ 11 % 16 ∧ m.tag.toNat = m.header.toNat / 2 ^ 7 % 16 ∧
    declaredWords m.header = m.header.toNat / 2 ^ 3 % 16 ∧ m.first = m.header.getLsbD 2 ∧
    m.second = m.header.getLsbD 1 ∧
    (messageFields m.kind m.first m.second = none → m.check = .error .kind) ∧
    (∀ fields, messageFields m.kind m.first m.second = some fields →
      (declaredWords m.header ≠ fields.length ∨ m.body.length ≠ fields.length →
        m.check = .error .length) ∧
      (declaredWords m.header = fields.length → m.body.length = fields.length →
        (¬ m.SpareZero fields → m.check = .error .spare) ∧
        (m.SpareZero fields →
          (∀ b : MessageBody, m.check = .ok b ↔ b.Form m.kind m.first m.second m.body) ∧
          ((∀ b : MessageBody, ¬ b.Form m.kind m.first m.second m.body) →
            m.check = .error .range))))

/-! ### OPPORTUNITY -/

/-- OPPORTUNITY, Table 5-2 (R95, R96, R154): HOLD with the hold counter while it is above 0, also with the
pool empty; else NO_TICKET with the pool empty. No visit is made. -/
def Obligations.OpportunityHoldOrNoTicket : Prop :=
  ∀ (s : State) (tag : BitVec 4) (offered : Nat), s.MediumReady tag (.opportunity offered) →
    (0 < s.gov.hold → ∃ t, exec .opportunity s = .next t ∧
      EndsMedium s t tag (.hold s.gov.hold) []) ∧
    (s.gov.hold = 0 → s.pool = [] → ∃ t, exec .opportunity s = .next t ∧
      EndsMedium s t tag .noTicket [])

/-- The class order (R97 to R99, Table 5-3): PODIUM before SEAT unless the podium cap is reached, BACKGROUND
last, or first when promoted, or not at all while CROWDED. -/
def Obligations.ClassOrder : Prop :=
  ∀ s : State,
    let capped := s.settings.scheduler.podiumShare < 100 ∧
      s.settings.scheduler.podiumShare * s.settings.governor.window * 10 ≤ s.gov.podiumUsage
    let promoted := s.settings.scheduler.backgroundInterval ≤ s.skip ∧ s.lists.background ≠ []
    (s.gov.load = .crowded → ¬ capped → s.classOrder s.readings = [.podium, .seat]) ∧
    (s.gov.load = .crowded → capped → s.classOrder s.readings = [.seat, .podium]) ∧
    (s.gov.load = .calm → promoted → ¬ capped →
      s.classOrder s.readings = [.background, .podium, .seat]) ∧
    (s.gov.load = .calm → promoted → capped →
      s.classOrder s.readings = [.background, .seat, .podium]) ∧
    (s.gov.load = .calm → ¬ promoted → ¬ capped →
      s.classOrder s.readings = [.podium, .seat, .background]) ∧
    (s.gov.load = .calm → ¬ promoted → capped →
      s.classOrder s.readings = [.seat, .podium, .background])

/-- OPPORTUNITY whose first non-empty list has a record at its head that can be granted (R103, R104, R109 to
R113): the head ticket of the pool is issued to it, the list is rotated once, and the GRANT carries the
fields of Table 5-5. -/
def Obligations.OpportunityGrantsHead : Prop :=
  ∀ (s : State) (tag : BitVec 4) (offered n h k : Nat) (pool : List Nat) (front back : List Cls) (c : Cls)
    (others : List Nat) (r : Record) (e : TierEntry),
    s.MediumReady tag (.opportunity offered) → s.gov.hold = 0 → s.pool = n :: pool → n < 24 →
    s.classOrder s.readings = front ++ c :: back → (∀ d ∈ front, s.lists.get d = []) →
    s.lists.get c = h :: others → s.record h = some r → r.held < (s.classSettings r.cls).ticketCap →
    0 < r.balance → s.settings.tierOf r.rate = some (k, e) →
    let q := (s.ticket n).seq + 1
    let burst := if s.gov.load = .crowded then e.crowdedBurstCap else e.burstCap
    let limit := leastBound r.balance.toNat burst
      [r.burstOverride, if offered = 0 then none else some offered]
    ∃ t, exec .opportunity s = .next t ∧
      EndsMedium s t tag (.grant n q h r.address limit (min e.frameCap r.backlog))
        [.records, .lists, .skip, .tickets, .pool] ∧
      t.lists.get c = others ++ [h] ∧ OtherListsSame c s t ∧
      OneRecord s t h (some { r with
        held := r.held + 1, grantCount := min 65535 (r.grantCount + 1) }) ∧
      OneTicket s t n ⟨q, some ⟨h, limit, (s.settings.scheduler.ticketLifetime * 1000 : Nat)⟩⟩ ∧
      t.pool = pool ∧
      t.skip = (if r.cls = .background then 0 else if s.lists.background = [] then s.skip
        else min 255 (s.skip + 1))

/-- Every OPPORTUNITY answers, and all that its visits do (R81, R93, R96, R103 to R108). The lists are only
rotated; of a record only the balance, tickets held and grant count change. Without a grant, no ticket,
pool, skip counter, tickets held or grant count changes, and with one no tickets held or grant count but
the granted record's. Past the checks of Table 5-2 each class of the
class order has its turn: twice as many visits as its list is long, within the 64 of one OPPORTUNITY, or as
many as come to a grant, behind which no class has a turn. Each visit rotates the list; it leaves a record
at its ticket cap as it is (R105), tops up a balance of 0 or below by tier quantum × weight up to the class
balance cap (R81), and is the grant where the balance is above 0. Without a grant the answer is NONE when
no visit was made, else DEFER with the number of visits. -/
def Obligations.OpportunityFrame : Prop :=
  ∀ (s : State) (tag : BitVec 4) (offered : Nat), s.MediumReady tag (.opportunity offered) →
    ∃ t a, exec .opportunity s = .next t ∧
      EndsMedium s t tag a [.records, .lists, .skip, .tickets, .pool] ∧
      (∀ h, s.record h = none → t.record h = none) ∧
      (∀ h r, s.record h = some r → ∃ u, t.record h = some u ∧
        u = { r with balance := u.balance, held := u.held, grantCount := u.grantCount }) ∧
      ((∀ n q h addr limit cap, a ≠ .grant n q h addr limit cap) →
        t.tickets = s.tickets ∧ t.pool = s.pool ∧ t.skip = s.skip ∧
        (∀ h r u, s.record h = some r → t.record h = some u →
          u.held = r.held ∧ u.grantCount = r.grantCount)) ∧
      (s.gov.hold = 0 → s.pool ≠ [] → s.ListLaw → s.settings.TierLaw →
        ∃ visits : Cls → Nat, (∀ c, c ∉ s.classOrder s.readings → visits c = 0) ∧
          ((∀ n q h addr limit cap, a ≠ .grant n q h addr limit cap) →
            Visited s t visits none ∧
            (∀ front c back, s.classOrder s.readings = front ++ c :: back →
              visits c = fullTurn s visits front c) ∧
            a = (if ((s.classOrder s.readings).map visits).sum = 0 then .nothing
              else .defer ((s.classOrder s.readings).map visits).sum)) ∧
          (∀ n q h addr limit cap, a = .grant n q h addr limit cap →
            Visited s t visits (some h) ∧
            ∃ front c back, s.classOrder s.readings = front ++ c :: back ∧
              (∀ before d after, front = before ++ d :: after → visits d = fullTurn s visits before d) ∧
              1 ≤ visits c ∧ visits c ≤ fullTurn s visits front c ∧
              (s.lists.get c)[(visits c - 1) % (s.lists.get c).length]? = some h ∧
              ∀ d ∈ back, visits d = 0)) ∧
      (∀ n q h addr limit cap, a = .grant n q h addr limit cap →
        ∀ k r u, k ≠ h → s.record k = some r → t.record k = some u →
          u.held = r.held ∧ u.grantCount = r.grantCount)

/-- The law of a grant (R109 to R112): only with the hold counter 0, of the head ticket of the pool, to an
ACTIVE record with backlog, balance above 0 and tickets held below its class ticket cap, never BACKGROUND
while CROWDED; the limit is the least of its bounds, at least 1 and at most the balance; the frame cap is the lesser of the tier's and the
backlog, 1 to 64. -/
def Obligations.GrantLaw : Prop :=
  ∀ (s t : State) (tag : BitVec 4) (offered n : Nat) (q : BitVec 8) (h : Nat) (addr : Address)
    (limit cap : Nat),
    s.MediumReady tag (.opportunity offered) → s.ListLaw → s.PoolLaw → s.TierTableLaw →
    (offered = 0 ∨ 100 ≤ offered) →
    (∀ k r b, s.record k = some r → r.burstOverride = some b → 200 ≤ b) →
    exec .opportunity s = .next t → MediumAnswered s t tag (.grant n q h addr limit cap) →
    s.gov.hold = 0 ∧ s.pool = n :: t.pool ∧ q = (s.ticket n).seq + 1 ∧
    OneTicket s t n ⟨q, some ⟨h, limit, (s.settings.scheduler.ticketLifetime * 1000 : Nat)⟩⟩ ∧
    ∃ r u k e, s.record h = some r ∧ t.record h = some u ∧
      r.state = .active ∧ 0 < r.backlog ∧ 0 < u.balance ∧
      r.held < (s.classSettings r.cls).ticketCap ∧ u.held = r.held + 1 ∧
      u.grantCount = min 65535 (r.grantCount + 1) ∧
      (s.gov.load = .crowded → r.cls ≠ .background) ∧ addr = r.address ∧
      s.settings.tierOf r.rate = some (k, e) ∧
      limit = leastBound u.balance.toNat
        (if s.gov.load = .crowded then e.crowdedBurstCap else e.burstCap)
        [r.burstOverride, if offered = 0 then none else some offered] ∧
      1 ≤ limit ∧ (limit : Int) ≤ u.balance ∧ cap = min e.frameCap r.backlog ∧ 1 ≤ cap ∧ cap ≤ 64 ∧
      t.skip = (if r.cls = .background then 0 else if s.lists.background = [] then s.skip
        else min 255 (s.skip + 1))

/-! ### COMPLETE -/

/-- COMPLETE answered STALE (R124, R125): the ticket is FREE, or its sequence is another. No ticket, record,
list, counter or notice changes. -/
def Obligations.CompleteStale : Prop :=
  ∀ (s : State) (tag : BitVec 4) (c : Completion), s.MediumReady tag (.complete c) →
    ((s.ticket c.ticket).issue = none ∨ (s.ticket c.ticket).seq ≠ c.seq) →
    ∃ t, exec .complete s = .next t ∧
      EndsMedium s t tag (.stale c.ticket (s.ticket c.ticket).seq) []

/-- COMPLETE answered DONE (R126 to R129): the ticket is returned to the pool's tail, its sequence kept; the
holder is charged the airtime used, its tickets held falls by 1, its rate and backlog follow the report,
its eligibility is judged; the governor counts the charge; no notice is made. Of the last ticket of a
RETIRING record (R47, R128): as before, and the record becomes FREE and a RETIRED notice is made, with the
drain cause and the consumed that includes this charge. -/
def Obligations.CompleteDone : Prop :=
  (∀ (s : State) (tag : BitVec 4) (c : Completion) (i : Issue) (r : Record),
    s.MediumReady tag (.complete c) → s.ticket c.ticket = ⟨c.seq, some i⟩ →
    s.record i.holder = some r → (r.living = true ∨ 1 < r.held) →
    let n := c.backlog.getD (r.backlog - c.acked)
    let u : Record := { r.debited c.used with
      held := r.held - 1, rate := c.rate.getD r.rate, backlog := n, highest := max r.highest n }
    ∃ t, exec .complete s = .next t ∧
      EndsMedium s t tag (.done (some i.holder))
        [.records, .lists, .skip, .tickets, .pool, .gov] ∧
      OneTicket s t c.ticket ⟨c.seq, none⟩ ∧ t.pool = s.pool ++ [c.ticket] ∧
      OneRecord s t i.holder (some u) ∧ Judged s t r.cls i.holder u.eligible ∧
      UsageCounted s t c.used r.cls) ∧
  (∀ (s : State) (tag : BitVec 4) (c : Completion) (i : Issue) (r : Record) (cause : DrainCause),
    s.MediumReady tag (.complete c) → s.ticket c.ticket = ⟨c.seq, some i⟩ →
    s.record i.holder = some r → r.state = .retiring cause → r.held = 1 →
    ∃ t, exec .complete s = .next t ∧
      EndsMedium s t tag (.done (some i.holder))
        [.records, .lists, .skip, .tickets, .pool, .gov, .notices] ∧
      OneTicket s t c.ticket ⟨c.seq, none⟩ ∧ t.pool = s.pool ++ [c.ticket] ∧
      OneRecord s t i.holder none ∧ Judged s t r.cls i.holder false ∧
      UsageCounted s t c.used r.cls ∧
      NoticesMade s t [.retired i.holder r.address r.label (min 4294967295 (r.consumed + c.used))
        (if cause = .host then .host else .aged)])

/-! ### HEARD, DEMAND, RESYNC -/

/-- HEARD of a known address (R52, R53): answered KNOWN; linger reloaded, aged mark cleared, rate and ps mark
taken, the state by Table 3-2, the eligibility judged; no notice. -/
def Obligations.HeardKnown : Prop :=
  ∀ (s : State) (tag : BitVec 4) (m : Hearing) (h : Nat) (r : Record),
    s.MediumReady tag (.heard m) → s.indexLookup m.address = some h → s.record h = some r →
    let u : Record := { r with
      linger := r.lingerOverride.getD (s.classSettings r.cls).lingerReload
      aged := false
      rate := m.rate.getD r.rate
      psMark := m.psMark
      state :=
        if r.state = .active ∧ m.psMark = .asleep then .dozing
        else if r.state = .dozing ∧ m.psMark = .awake then .active
        else r.state }
    ∃ t, exec .heard s = .next t ∧ EndsMedium s t tag (.known h) [.records, .lists, .skip] ∧
      OneRecord s t h (some u) ∧ Judged s t r.cls h u.eligible

/-- HEARD of an unknown address (R56, R57): answered UNKNOWN; a STRANGER notice is made, and the address
appended to the filter with the oldest removed first when it holds 8, exactly when the frame kind's switch
is ON and the filter does not hold the address. -/
def Obligations.HeardUnknown : Prop :=
  ∀ (s : State) (tag : BitVec 4) (m : Hearing),
    s.MediumReady tag (.heard m) → s.indexLookup m.address = none →
    let switched := match m.kind with
      | .mgmt => s.settings.presence.mgmtSwitch
      | .data => s.settings.presence.dataSwitch
      | .ctrl => s.settings.presence.ctrlSwitch
    (switched = true → m.address ∉ s.strangers → ∃ t, exec .heard s = .next t ∧
      EndsMedium s t tag .unknown [.strangers, .notices] ∧
      t.strangers =
        (if s.strangers.length < 8 then s.strangers else s.strangers.tail) ++ [m.address] ∧
      NoticesMade s t [.stranger m.address m.kind m.rate]) ∧
    (switched = false ∨ m.address ∈ s.strangers → ∃ t, exec .heard s = .next t ∧
      EndsMedium s t tag .unknown [])

/-- DEMAND (R60, R61): NOT_LIVE for a FREE or RETIRING record; else DONE, the backlog set, the watermark
following it up, and the eligibility judged. -/
def Obligations.Demand : Prop :=
  ∀ (s : State) (tag : BitVec 4) (h n : Nat), s.MediumReady tag (.demand h n) →
    (s.record h = none ∨ (∃ r, s.record h = some r ∧ r.living = false) →
      ∃ t, exec .demand s = .next t ∧ EndsMedium s t tag .notLive []) ∧
    (∀ r, s.record h = some r → r.living = true →
      let u : Record := { r with backlog := n, highest := max r.highest n }
      ∃ t, exec .demand s = .next t ∧ EndsMedium s t tag (.done none) [.records, .lists, .skip] ∧
        OneRecord s t h (some u) ∧ Judged s t r.cls h u.eligible)

/-- RESYNC (R136 to R138): every ISSUED ticket is returned without charge in ascending number, tickets held
become 0, RETIRING records become FREE with a RETIRED notice of cause RESYNC each in ascending handle
order, the hold counter becomes 0 and the engine state RUNNING; the answer carries the tickets returned. -/
def Obligations.Resync : Prop :=
  ∀ (s : State) (tag : BitVec 4), s.MediumReady tag .resync →
    let out := (List.range 24).filter fun n => (s.ticket n).issue.isSome
    ∃ t, exec .resync s = .next t ∧
      MediumAnswered { s with medium := { s.medium with engine := .running } } t tag
        (.resynced out.length) ∧
      TableReleased s t ∧
      UnchangedExcept [.medium, .arbiter, .records, .tickets, .pool, .gov, .notices] s t ∧
      (∀ n, t.ticket n = ⟨(s.ticket n).seq, none⟩) ∧ t.pool = s.pool ++ out ∧
      (∀ h, t.record h = (s.record h).bind fun r =>
        if r.living then some { r with held := 0 } else none) ∧
      t.gov = { s.gov with hold := 0 } ∧
      NoticesMade s t ((List.range 640).filterMap fun h => (s.record h).bind fun r =>
        if r.living then none else some (.retired h r.address r.label r.consumed .resync))

/-! ### Timers -/

/-- TICKET_DUE at its moment (R130): with a ticket due the Ticket Timer asks for a transaction, unless it has
one asked for or granted. With no ticket ISSUED there is no such event, and the state is left as it is
(the model's choice, log entry 2). Before its moment the command stands as TimedCommandsReachTheirEvent
says (log entry 3). -/
def Obligations.TicketDue : Prop :=
  ∀ s : State, s.inReset = false →
    ((∀ n, (s.ticket n).issue = none) → exec .ticketDue s = .next s) ∧
    (∀ n i, (s.ticket n).issue = some i → i.left ≤ 0 →
      (s.timerAsked = true → exec .ticketDue s = .next s) ∧
      (s.timerAsked = false → ∃ t, exec .ticketDue s = .next t ∧ t.timerAsked = true ∧
        TableAsked s t .ticketTimer ∧ UnchangedExcept [.timerAsked, .arbiter] s t)) ∧
    (∀ n i, (s.ticket n).issue = some i →
      (∀ m j, (s.ticket m).issue = some j → i.left ≤ j.left) →
      s.deadlineLeft = some i.left.toNat)

/-- EXPIRY (R131, R132, R85): with no ticket due the transaction ends without a change; else the due ticket
of the earliest deadline, the lowest-numbered among equals, is returned, its holder charged the airtime
limit with tickets held lowered, and an EXPIRED notice made; the last ticket of a RETIRING record ends its
drain with a RETIRED notice behind it. The Timer asks again exactly when a ticket is still due (R130). -/
def Obligations.Expiry : Prop :=
  ∀ s : State, s.inReset = false → s.arbiter.holder = some .ticketTimer → s.timerAsked = true →
    ((∀ n i, (s.ticket n).issue = some i → 0 < i.left) → ∃ t, exec .expiry s = .next t ∧
      t.timerAsked = false ∧ TableReleased s t ∧ UnchangedExcept [.timerAsked, .arbiter] s t) ∧
    (∀ n i r, (s.ticket n).issue = some i → i.left ≤ 0 →
      (∀ m j, (s.ticket m).issue = some j → i.left < j.left ∨ i.left = j.left ∧ n ≤ m) →
      s.record i.holder = some r →
      ∃ t, exec .expiry s = .next t ∧ TableReleased s t ∧
        UnchangedExcept [.timerAsked, .arbiter, .tickets, .pool, .records, .gov, .notices] s t ∧
        OneTicket s t n ⟨(s.ticket n).seq, none⟩ ∧ t.pool = s.pool ++ [n] ∧
        UsageCounted s t i.limit r.cls ∧
        (t.timerAsked = true ↔ ∃ m j, m ≠ n ∧ (s.ticket m).issue = some j ∧ j.left ≤ 0) ∧
        (r.living = true ∨ 1 < r.held →
          OneRecord s t i.holder (some { r.debited i.limit with held := r.held - 1 }) ∧
          NoticesMade s t [.expired i.holder r.label n i.limit]) ∧
        (∀ cause, r.state = .retiring cause → r.held = 1 →
          OneRecord s t i.holder none ∧
          NoticesMade s t [.expired i.holder r.label n i.limit,
            .retired i.holder r.address r.label (min 4294967295 (r.consumed + i.limit))
              (if cause = .host then .host else .aged)]))

/-- PERIOD_TIMER_EXPIRY at its moment (R63, R64): the timer reloads; with no pass running a pass begins at
handle 0 and the Sweeper asks for its step, else the pass stays where it is. Before its moment the command
stands as TimedCommandsReachTheirEvent says (log entry 3): a pass that runs while nothing else comes up is
found running at the expiry, and no pass begins for that period (Table 3-9). -/
def Obligations.PeriodTimerExpiry : Prop :=
  ∀ s : State, s.inReset = false → s.periodLeft = some s.sweeper.periodLeft ∧
    (s.sweeper.periodLeft = 0 → ∃ t, exec .periodTimerExpiry s = .next t ∧
      (∀ h, s.sweeper.pass = some h →
        t.sweeper = ⟨s.settings.presence.passPeriod * 1000, some h⟩ ∧
        UnchangedExcept [.sweeper] s t) ∧
      (s.sweeper.pass = none → t.sweeper = ⟨s.settings.presence.passPeriod * 1000, some 0⟩ ∧
        TableAsked s t .sweeper ∧ UnchangedExcept [.sweeper, .arbiter] s t)) ∧
    (∀ h, s.sweeper.pass = some h → s.heldStep = none → s.TimebaseLaw →
      0 < s.sweeper.periodLeft → s.sweeper.periodLeft ≤ s.gov.windowLeft →
      (∀ k, s.notices.timer = some k → s.sweeper.periodLeft ≤ k) →
      (∀ k i, (s.ticket k).issue = some i → (s.sweeper.periodLeft : Int) ≤ i.left) →
      ∃ u t, TimePassed s.sweeper.periodLeft s u ∧ exec .periodTimerExpiry s = .next t ∧
        t.sweeper = ⟨s.settings.presence.passPeriod * 1000, some h⟩ ∧ UnchangedExcept [.sweeper] u t)

/-- SWEEPER_STEP (R65 to R67, R45). A FREE or RETIRING record, or one of linger 0, is left; a linger of 2 or
above falls by 1; at linger 1 a living record ages: with auto-retire OFF it stays with linger 0 and its
aged mark set, else it leaves its list and becomes FREE with no ticket held, or RETIRING of cause AGED; one
AGED notice is made. The pass goes on to the next handle, or ends after handle 639. -/
def Obligations.SweeperStep : Prop :=
  (∀ (s : State) (h : Nat), s.inReset = false → s.arbiter.holder = some .sweeper →
    s.sweeper.pass = some h →
    let w : Sweeper := { s.sweeper with pass := if h < 639 then some (h + 1) else none }
    (s.record h = none ∨ (∃ r, s.record h = some r ∧ (r.living = false ∨ r.linger = 0)) →
      ∃ t, exec .sweeperStep s = .next t ∧ t.sweeper = w ∧ TableReleased s t ∧
        UnchangedExcept [.sweeper, .arbiter] s t) ∧
    (∀ r, s.record h = some r → r.living = true → 2 ≤ r.linger →
      ∃ t, exec .sweeperStep s = .next t ∧ t.sweeper = w ∧ TableReleased s t ∧
        OneRecord s t h (some { r with linger := r.linger - 1 }) ∧
        UnchangedExcept [.sweeper, .arbiter, .records] s t)) ∧
  (∀ (s : State) (h : Nat) (r : Record), s.inReset = false → s.arbiter.holder = some .sweeper →
    s.sweeper.pass = some h → s.record h = some r → r.living = true → r.linger = 1 →
    ∃ t, exec .sweeperStep s = .next t ∧ TableReleased s t ∧
      t.sweeper = { s.sweeper with pass := if h < 639 then some (h + 1) else none } ∧
      UnchangedExcept [.sweeper, .arbiter, .records, .lists, .skip, .notices] s t ∧
      ((s.classSettings r.cls).autoRetire = false →
        OneRecord s t h (some { r with linger := 0, aged := true }) ∧ t.lists = s.lists ∧
        t.skip = s.skip ∧ NoticesMade s t [.aged h r.address r.label .none]) ∧
      ((s.classSettings r.cls).autoRetire = true → r.held = 0 →
        OneRecord s t h none ∧ Judged s t r.cls h false ∧
        NoticesMade s t [.aged h r.address r.label .freed]) ∧
      ((s.classSettings r.cls).autoRetire = true → 0 < r.held →
        OneRecord s t h (some { r with linger := 0, aged := true, state := .retiring .aged }) ∧
        Judged s t r.cls h false ∧ NoticesMade s t [.aged h r.address r.label .draining]))

/-- WINDOW_END at its moment (R144 to R148): the ending window is measured, judged by Table 7-3 in mode ON, the
usages cleared and the next window started; a change of state makes a GOVERNOR notice. Before its moment
the command stands as TimedCommandsReachTheirEvent says (log entry 3). -/
def Obligations.WindowEnd : Prop :=
  (∀ s : State, s.windowLeft = some s.gov.windowLeft) ∧
  ∀ s : State, s.inReset = false → s.gov.windowLeft = 0 → ∃ t, exec .windowEnd s = .next t ∧
    UnchangedExcept [.gov, .notices] s t ∧
    let c := s.settings.governor
    let util := min 255 (100 * s.gov.windowUsage / (c.window * 1000))
    t.gov = { s.gov with
      load := t.gov.load
      countdown := t.gov.countdown
      windowUsage := 0
      podiumUsage := 0
      lastUtilization := util
      busiest := max s.gov.busiest util
      windowLeft := c.window * 1000 } ∧
    (c.mode = false → t.gov.load = s.gov.load ∧ t.gov.countdown = s.gov.countdown) ∧
    (c.mode = true → s.gov.load = .calm → c.enter ≤ util →
      t.gov.load = .crowded ∧ t.gov.countdown = c.minHold) ∧
    (c.mode = true → s.gov.load = .calm → util < c.enter →
      t.gov.load = .calm ∧ t.gov.countdown = 0) ∧
    (c.mode = true → s.gov.load = .crowded → 1 < s.gov.countdown →
      t.gov.load = .crowded ∧ t.gov.countdown = s.gov.countdown - 1) ∧
    (c.mode = true → s.gov.load = .crowded → s.gov.countdown ≤ 1 → c.exit ≤ util →
      t.gov.load = .crowded ∧ t.gov.countdown = 0) ∧
    (c.mode = true → s.gov.load = .crowded → s.gov.countdown ≤ 1 → util < c.exit →
      t.gov.load = .calm ∧ t.gov.countdown = 0) ∧
    NoticesMade s t (if t.gov.load = s.gov.load then [] else [.governor t.gov.load util])

/-- HOLD_COUNTER_EXPIRY (R154): with the hold over nothing is left to do; before, in a time in which nothing
comes up, the time left to it passes and the hold counter falls to 0. COALESCE_TIMER_EXPIRY at its moment
(R173): the timer stops, and ATTN is asserted when notices are held (with none held ATTN stays as it is,
log entry 9); before, in a time in which nothing else comes up, the time left to it passes first. Where
something comes up, TimedCommandsReachTheirEvent says what happens (log entry 3). With the timer stopped
there is no such event, and the state is left as it is (the model's choice, log entry 2). -/
def Obligations.HoldAndCoalesceExpiry : Prop :=
  (∀ s : State, s.inReset = false → s.holdLeft = some s.gov.hold ∧
    (s.gov.hold = 0 → exec .holdCounterExpiry s = .next s) ∧
    (0 < s.gov.hold → s.ownStep = none → s.gov.hold ≤ s.gov.windowLeft →
      s.gov.hold ≤ s.sweeper.periodLeft → (∀ k, s.notices.timer = some k → s.gov.hold ≤ k) →
      (∀ k i, (s.ticket k).issue = some i → (s.gov.hold : Int) ≤ i.left) →
      ∃ t, exec .holdCounterExpiry s = .next t ∧ TimePassed s.gov.hold s t ∧ t.gov.hold = 0)) ∧
  (∀ s : State, s.inReset = false → s.coalesceLeft = s.notices.timer ∧
    (s.notices.timer = none → exec .coalesceTimerExpiry s = .next s) ∧
    (s.notices.timer = some 0 → ∃ t, exec .coalesceTimerExpiry s = .next t ∧
      UnchangedExcept [.notices] s t ∧
      t.notices = { s.notices with
        timer := none
        attn := s.notices.attn || !s.notices.queue.isEmpty }) ∧
    (∀ n, s.notices.timer = some n → 0 < n → s.heldStep = none → n ≤ s.gov.windowLeft →
      n ≤ s.sweeper.periodLeft → (∀ k i, (s.ticket k).issue = some i → (n : Int) ≤ i.left) →
      ∃ u t, TimePassed n s u ∧ exec .coalesceTimerExpiry s = .next t ∧
        UnchangedExcept [.notices] u t ∧
        t.notices = { s.notices with
          timer := none
          attn := s.notices.attn || !s.notices.queue.isEmpty }))

/-! ### The Request Port -/

/-- The edges of CSn without an effect of their own (R177, R181): a fall latches the port state for the whole
transaction, once CSn has been seen high since the hard reset; a transaction that spans a hard reset ends
without effect, and its rise is CSn seen high, as CSN_SEEN_HIGH is. The rest is the model's choice: that a
second fall does nothing, and that a rise with nothing latched on a link already followed, which ends no
transaction, is worked as one that spanned a reset (log entry 10); and that the record of MISO is then
empty (log entry 8). -/
def Obligations.LinkFooting : Prop :=
  ∀ (s : State) (bytes : List Byte) (d : Option Byte) (n k : Nat), s.inReset = false →
    (∀ c ∈ [Instr.submit .fall bytes k, .collect .fall n k, .statusOnlyTransaction .fall d n],
      ∃ t, exec c s = .next t ∧ UnchangedExcept [.req] s t ∧
        t.req = if s.req.csnSeen = true ∧ s.req.csn = none
          then { s.req with csn := some s.req.port.status } else s.req) ∧
    (∀ span, (span = .rise ∨ (span = .whole ∧ s.req.csnSeen = false)) → s.req.csn = none →
      ∀ c ∈ [Instr.submit span bytes k, .collect span n k, .statusOnlyTransaction span d n],
        ∃ t, exec c s = .next t ∧ UnchangedExcept [.req] s t ∧ t.req = s.req.risen []) ∧
    (∃ t, exec .csnSeenHigh s = .next t ∧ UnchangedExcept [.req] s t ∧
      t.req = { s.req with csnSeen := true })

/-- SUBMIT (R178, R179). A port that is not IDLE discards the frame, and a frame cut short before its length
byte has no effect; a malformed frame is answered CHECK_FAILED, a code outside Table 10-1 UNKNOWN_REQUEST,
and a body its field checks refuse BAD_FIELD. The part clocks out the status byte and bytes of 0. Of a
sound frame whose request passes its field checks, the port becomes WORKING with the request, and the
Request Engine asks for the table when the request takes a transaction, by Table 10-1 (R17). The check byte
is the CRC-8 of R185. -/
def Obligations.Submit : Prop :=
  (let shift : Byte → Byte := fun r => if r.getLsbD 7 then (r <<< 1) ^^^ 0x07 else r <<< 1
   crc8 [] = 0 ∧ crc8 [0x01, 0x00] = 0x15 ∧
    ∀ (bytes : List Byte) (b : Byte), crc8 (bytes ++ [b]) = shift^[8] (crc8 bytes ^^^ b)) ∧
  (∀ r : Request, r.usesTable = true ↔ r.command ∈ [Instr.admitStation, .amend, .retire, .lookup, .readRecord,
      .list, .readTickets, .setClass, .setTierWrite, .setTierInvalidate, .setScheduler, .resetFull,
      .resetAccounts] ∨
    r = .readSettings .classes ∨ r = .readSettings .tiers ∨ r = .readSettings .scheduler) ∧
  (Request.identify.command = .identify ∧ (∀ i, (Request.setPresence i).command = .setPresence) ∧
    (∀ i, (Request.setGovernor i).command = .setGovernor) ∧
    (∀ i, (Request.setNotice i).command = .setNotice) ∧
    (∀ g, (Request.readSettings g).command = .readSettings) ∧
    (∀ b, (Request.readGovernor b).command = .readGovernor) ∧
    (∀ n, (Request.hold n).command = .hold) ∧
    (∀ n, (Request.fetchNotices n).command = .fetchNotices)) ∧
  (∀ (s : State) (span : SpiSpan) (bytes : List Byte) (k : Nat) (p : PortStatus),
    s.inReset = false → EndsLatched s span p →
    let q := s.req.risen (p.byte :: List.replicate bytes.length 0)
    ((p ≠ .idle ∨ s.req.port ≠ .idle ∨ bytes.length < 2) →
      ∃ t, exec (.submit span bytes k) s = .next t ∧ t.req = q ∧ UnchangedExcept [.req] s t) ∧
    (p = .idle → s.req.port = .idle → 2 ≤ bytes.length →
      (¬ ∃ code body, SoundFrame bytes code body) →
      ∃ t, exec (.submit span bytes k) s = .next t ∧
        t.req = { q with port := .answerReady .checkFailed } ∧ UnchangedExcept [.req] s t) ∧
    (∀ code body, p = .idle → s.req.port = .idle → SoundFrame bytes code body →
      (parseRequest s.settings code.toNat body = none →
        ∃ t, exec (.submit span bytes k) s = .next t ∧
          t.req = { q with port := .answerReady .unknownRequest } ∧ UnchangedExcept [.req] s t) ∧
      (parseRequest s.settings code.toNat body = some none →
        ∃ t, exec (.submit span bytes k) s = .next t ∧
          t.req = { q with port := .answerReady .badField } ∧ UnchangedExcept [.req] s t))) ∧
  (∀ (s : State) (span : SpiSpan) (bytes : List Byte) (k : Nat) (code : Byte) (body : List Byte)
    (r : Request),
    s.inReset = false → EndsLatched s span .idle → s.req.port = .idle → SoundFrame bytes code body →
    parseRequest s.settings code.toNat body = some (some r) →
    ∃ t, exec (.submit span bytes k) s = .next t ∧
      t.req = { s.req.risen (PortStatus.idle.byte :: List.replicate bytes.length 0) with
        port := .working r } ∧
      (r.usesTable = true → TableAsked s t .requestEngine ∧ UnchangedExcept [.req, .arbiter] s t) ∧
      (r.usesTable = false → UnchangedExcept [.req] s t))

/-- Which frames are which requests (R179, R186, Tables 10-1, 10-4, 10-5): a code outside Table 10-1 is
UNKNOWN_REQUEST; of any other code the body is a request exactly when it is that request's layout with
every field in the range of the rule that owns it, and BAD_FIELD when it is the layout of none. ADMIT with
every choice of optional fields and the item requests with every choice and order of items are among
them. -/
def Obligations.RequestsDecoded : Prop :=
  Cls.podium.code = 0 ∧ Cls.seat.code = 1 ∧ Cls.background.code = 2 ∧
  ∀ (settings : Settings) (code : Nat) (body : List Byte),
    (parseRequest settings code body = none ↔ code ∉ requestCodes) ∧
    (∀ r : Request, parseRequest settings code body = some (some r) ↔ r.Form settings code body) ∧
    (code ∈ requestCodes → (∀ r : Request, ¬ r.Form settings code body) →
      parseRequest settings code body = some none)

/-- The layouts of the host answers (R180, R183, R185, R186, Tables 10-6 to 10-10), most significant byte
first, an absent optional field 0; that it is 0 in a notice too is the model's choice (log entry 15), and
so is the 0 in every bit that no table gives a meaning: bits 7:1 of the NOTICES flags, bits 7:6 of a
notice's head byte, bits 7:5 and 7:3 of the two mark bytes of the record image, and the bit-17 map at a
FREE ticket (log entry 16). -/
def Obligations.HostAnswersOnTheWire : Prop :=
  let b : Nat → List Byte := fun v => [BitVec.ofNat 8 v]
  let b2 : Nat → List Byte := fun v => b (v / 256) ++ b v
  let b3 : Nat → List Byte := fun v => b (v / 256 ^ 2) ++ b2 v
  let b4 : Nat → List Byte := fun v => b2 (v / 256 ^ 2) ++ b2 v
  let b5 : Nat → List Byte := fun v => b (v / 256 ^ 4) ++ b4 v
  let b6 : Nat → List Byte := fun v => b2 (v / 256 ^ 4) ++ b4 v
  let signed : Int → List Byte := fun v => b2 (v % 65536).toNat
  let label : Option (BitVec 16) → Nat := fun l => (l.map BitVec.toNat).getD 0
  let load : Load → Nat := fun l => if l = .crowded then 1 else 0
  let map : List Bool → Nat := fun l => (l.zipIdx.map fun p => p.1.toNat * 2 ^ p.2).sum
  let short : HostAnswer → Nat → List Byte → Prop := fun a code body =>
    a.code = BitVec.ofNat 8 code ∧ a.body = body
  short .done 0x01 [] ∧ short .badField 0x02 [] ∧ short .unknownRequest 0x03 [] ∧
  short .checkFailed 0x04 [] ∧ short .classFull 0x07 [] ∧ short .tableFull 0x08 [] ∧
  short .notLive 0x09 [] ∧ short .unknown 0x0E [] ∧
  (∀ h, short (.admitted h) 0x05 (b2 h) ∧ short (.duplicate h) 0x06 (b2 h) ∧
    short (.known h) 0x0D (b2 h) ∧ short (.free h) 0x10 (b2 h)) ∧
  (∀ h a l n, short (.freed h a l n) 0x0A
    (b2 h ++ b6 a.toNat ++ b l.isSome.toNat ++ b2 (label l) ++ b4 n)) ∧
  (∀ h n, short (.draining h n) 0x0B (b2 h ++ b n)) ∧ (∀ n, short (.alreadyRetiring n) 0x0C (b n)) ∧
  (∀ h (r : Record) k listed next, short (.record ⟨h, r, k, listed, next⟩) 0x0F
    (b2 h ++
      b (match r.state with
        | .active => 1
        | .dozing => 2
        | .barred => 3
        | .retiring _ => 4) ++
      b6 r.address.toNat ++ b r.cls.code ++ b r.weight ++
      b (r.label.isSome.toNat + 2 * r.lingerOverride.isSome.toNat + 4 * r.burstOverride.isSome.toNat +
        8 * next.isSome.toNat + 16 * (!r.living).toNat) ++
      b2 (label r.label) ++ b2 (r.lingerOverride.getD 0) ++ b2 (r.burstOverride.getD 0) ++
      b ((if r.psMark = .awake then 1 else 0) + 2 * r.aged.toNat + 4 * listed.toNat) ++
      b2 r.rate ++ signed r.balance ++ b2 r.backlog ++ b r.held ++ b2 r.linger ++ b4 r.consumed ++
      b2 r.grantCount ++ signed r.lowest ++ b2 r.highest ++ b k ++ b2 (next.getD 0) ++
      b (match r.state with
        | .retiring .host => 1
        | .retiring .aged => 2
        | .active | .dozing | .barred => 0))) ∧
  (∀ c n from' (hs : List Nat), short (.listed c n from' hs) 0x11
    (b c.code ++ b2 n ++ b2 from' ++ b hs.length ++ hs.flatMap b2)) ∧
  (∀ (views : List TicketView) (pool : List Nat), short (.tickets views pool) 0x12
    (views.map (fun v => v.seq) ++ b3 (map (views.map fun v => v.issue.isSome)) ++
      b3 (map (views.map fun v => match v.issue with
        | some i => i.remaining.testBit 17
        | none => false)) ++
      b pool.length ++ pool.flatMap b ++
      (views.filterMap fun v => v.issue).flatMap fun i =>
        b5 (i.holder * 2 ^ 30 + i.limit * 2 ^ 17 + i.remaining % 2 ^ 17))) ∧
  (∀ n, short (.order n) 0x13 (b n)) ∧ (∀ n, short (.inUse n) 0x14 (b2 n)) ∧
  (let one : ClassSettings → Nat → List Byte := fun c n =>
      b2 c.capacity ++ b2 c.lingerReload ++ b c.autoRetire.toNat ++ b c.ticketCap ++
        b2 c.initialBalance ++ b2 c.balanceCap ++ b2 n
    ∀ c n, short (.settings (.classes c n)) 0x15 (b 1 ++ one (c.get .podium) (n.get .podium) ++
      one (c.get .seat) (n.get .seat) ++ one (c.get .background) (n.get .background))) ∧
  (∀ entries : Vector (Option TierEntry) 8, short (.settings (.tiers entries)) 0x15
    (b 2 ++ entries.toList.flatMap fun e => match e with
      | some e => b 1 ++ b2 e.rateLimit ++ b2 e.quantum ++ b2 e.burstCap ++ b2 e.crowdedBurstCap ++
          b e.frameCap
      | none => [0, 0, 0, 0, 0, 0, 0, 0, 0, 0])) ∧
  (∀ c skip, short (.settings (.scheduler c skip)) 0x15
    (b 3 ++ b c.ticketLifetime ++ b c.podiumShare ++ b c.backgroundInterval ++ b skip)) ∧
  (∀ c, short (.settings (.presence c)) 0x15
    (b 4 ++ b2 c.passPeriod ++ b c.mgmtSwitch.toNat ++ b c.dataSwitch.toNat ++ b c.ctrlSwitch.toNat)) ∧
  (∀ c, short (.settings (.governor c)) 0x15
    (b 5 ++ b c.mode.toNat ++ b2 c.window ++ b c.enter ++ b c.exit ++ b c.minHold)) ∧
  (∀ c, short (.settings (.notice c)) 0x15 (b 6 ++ b c.coalesceCount ++ b2 c.coalesceTime)) ∧
  (∀ l n w p u m h, short (.governorState l n w p u m h) 0x16
    (b (load l) ++ b n ++ b3 w ++ b3 p ++ b u ++ b m ++ b3 h)) ∧
  (∀ o (notices : List Notice) left, short (.notices o notices left) 0x17
    (b o.toNat ++ b notices.length ++ b left ++ notices.flatMap fun n =>
      let head : Nat → Bool → Nat → List Byte := fun kind field coded =>
        b (kind + 8 * field.toNat + 16 * coded) ++ b4 n.stamp.toNat
      match n.body with
      | .stranger a k rate =>
          head 1 rate.isSome (match k with
            | .mgmt => 0
            | .data => 1
            | .ctrl => 2) ++ b6 a.toNat ++ b2 (rate.getD 0)
      | .aged h a l out =>
          head 2 l.isSome (match out with
            | .none => 0
            | .freed => 1
            | .draining => 2) ++ b2 h ++ b6 a.toNat ++ b2 (label l)
      | .retired h a l c cause =>
          head 3 l.isSome (match cause with
            | .host => 0
            | .aged => 1
            | .resync => 2) ++ b2 h ++ b6 a.toNat ++ b2 (label l) ++ b4 c
      | .expired h l n charge => head 4 l.isSome 0 ++ b2 h ++ b2 (label l) ++ b n ++ b2 charge
      | .governor l u => head 5 false (load l) ++ b u)) ∧
  (∀ r : ResetRecord, short (.identity r) 0x18
    (b2 0x0640 ++ b 3 ++ b2 640 ++ b 24 ++ b (match r.cause with
      | .powerOn => 1
      | .pin => 2
      | .request => 3) ++ b r.count))

/-- COLLECT (R180): an ANSWER_READY port clocks out its answer frame and becomes IDLE when the whole check
byte has been clocked out, else keeps the answer; in any other state the empty answer is clocked out. Bytes
after the check byte are 0. -/
def Obligations.Collect : Prop :=
  ∀ (s : State) (span : SpiSpan) (n k : Nat) (p : PortStatus), s.inReset = false → EndsLatched s span p →
    ∃ t, exec (.collect span n k) s = .next t ∧ UnchangedExcept [.req] s t ∧
      (∀ a, p = .answerReady → s.req.port = .answerReady a →
        let frame := a.code :: BitVec.ofNat 8 a.body.length ::
          (a.body ++ [crc8 (a.code :: BitVec.ofNat 8 a.body.length :: a.body)])
        let q := s.req.risen (p.byte :: clockedOut frame n)
        (frame.length ≤ n → t.req = { q with port := .idle } ∧ t.rdy = false) ∧
        (n < frame.length → t.req = q ∧ t.rdy = true)) ∧
      ((p ≠ .answerReady ∨ ∀ a, s.req.port ≠ .answerReady a) →
        t.req = s.req.risen (p.byte :: clockedOut [0, 0, 0] n))

/-- A transaction that only reports status (R177, Table 10-3): the status byte is that of the port state
latched, bytes of 0 follow it, and nothing else changes. Where CSn rises before the direction byte is
complete the transaction has no effect, and the record of MISO is then empty, which is the model's choice
(log entry 8). -/
def Obligations.StatusOnly : Prop :=
  ∀ (s : State) (span : SpiSpan) (d : Option Byte) (n : Nat) (p : PortStatus),
    s.inReset = false → EndsLatched s span p →
    ∃ t, exec (.statusOnlyTransaction span d n) s = .next t ∧ UnchangedExcept [.req] s t ∧
      (d = none → t.req = s.req.risen []) ∧
      (d ≠ none → ∃ status : Byte,
        t.req = s.req.risen (status :: List.replicate n 0) ∧
        (p = .idle → status = 0x80) ∧ (p = .working → status = 0x81) ∧
        (p = .answerReady → status = 0x82))

/-! ### Requests about records -/

/-- An index lookup (R14, R15): while no two living records share an address, it finds a handle exactly when
the record there is ACTIVE, DOZING or BARRED and has the address in all 48 bits, and none exactly when
there is no such record. -/
def Obligations.IndexLookup : Prop :=
  ∀ (s : State) (a : Address), s.IndexLaw →
    (∀ h, s.indexLookup a = some h ↔
      ∃ r, s.record h = some r ∧ r.living = true ∧ r.address = a) ∧
    (s.indexLookup a = none ↔ ∀ h r, s.record h = some r → r.living = true → r.address ≠ a)

/-- ADMIT (R28 to R30, Tables 2-2, 2-3). Accepted, the lowest-numbered FREE handle holds the new record, and the
address leaves the Stranger Filter. Refused, it changes nothing: DUPLICATE with the handle found, else
CLASS_FULL at the class capacity, else TABLE_FULL with no handle FREE. -/
def Obligations.Admit : Prop :=
  (∀ (s : State) (a : Admission) (h : Nat), s.HostReady (.admitStation a) →
    s.indexLookup a.address = none → s.occupancy a.cls < (s.classSettings a.cls).capacity →
    h < 640 → s.record h = none → (∀ k < h, s.record k ≠ none) →
    ∃ t r, exec .admitStation s = .next t ∧ EndsHost s t (.admitted h) [.records, .strangers] ∧
      OneRecord s t h (some r) ∧ r.FreshFor a (s.classSettings a.cls) ∧
      t.strangers = s.strangers.erase a.address ∧ t.occupancy a.cls = s.occupancy a.cls + 1 ∧
      (∀ c, c ≠ a.cls → t.occupancy c = s.occupancy c)) ∧
  (∀ (s : State) (a : Admission), s.HostReady (.admitStation a) →
    (∀ h, s.indexLookup a.address = some h →
      ∃ t, exec .admitStation s = .next t ∧ EndsHost s t (.duplicate h) []) ∧
    (s.indexLookup a.address = none → (s.classSettings a.cls).capacity ≤ s.occupancy a.cls →
      ∃ t, exec .admitStation s = .next t ∧ EndsHost s t .classFull []) ∧
    (s.indexLookup a.address = none → s.occupancy a.cls < (s.classSettings a.cls).capacity →
      (∀ h < 640, s.record h ≠ none) →
      ∃ t, exec .admitStation s = .next t ∧ EndsHost s t .tableFull []))

/-- AMEND (R39 to R44, R102). NOT_LIVE for a FREE or RETIRING record; CLASS_FULL when it names another class
at its capacity, none of its items applied. With no class item, or one naming the record's own class,
balance to initial, the field items and the barred item are applied and the eligibility judged. Into
another class below its capacity, the balance is clipped at the new class's cap, then the other items are
applied in their order; the record leaves its old list, and joins the tail of its new class's list if it is
eligible; the background-skip counter becomes 0 when its leaving empties the BACKGROUND list. -/
def Obligations.Amend : Prop :=
  (∀ (s : State) (h : Nat) (a : Amendment), s.HostReady (.amend h a) →
    (s.record h = none ∨ (∃ r, s.record h = some r ∧ r.living = false) →
      ∃ t, exec .amend s = .next t ∧ EndsHost s t .notLive []) ∧
    (∀ r c, s.record h = some r → r.living = true → a.cls = some c → c ≠ r.cls →
      (s.classSettings c).capacity ≤ s.occupancy c →
      ∃ t, exec .amend s = .next t ∧ EndsHost s t .classFull []) ∧
    (∀ r, s.record h = some r → r.living = true → a.cls = none ∨ a.cls = some r.cls →
      let initial : Int := (s.classSettings r.cls).initialBalance
      let u : Record := { r with
        balance := if a.toInitial then initial else r.balance
        lowest := if a.toInitial then min r.lowest initial else r.lowest
        weight := a.weight.getD r.weight
        label := a.label.getD r.label
        lingerOverride := a.lingerOverride.getD r.lingerOverride
        burstOverride := a.burstOverride.getD r.burstOverride
        state :=
          if a.barred = some true then .barred
          else if a.barred = some false ∧ r.state = .barred then
            (if r.psMark = .awake then .active else .dozing)
          else r.state }
      ∃ t, exec .amend s = .next t ∧ EndsHost s t .done [.records, .lists, .skip] ∧
        OneRecord s t h (some u) ∧ Judged s t r.cls h u.eligible)) ∧
  (∀ (s : State) (h : Nat) (a : Amendment) (r : Record) (c : Cls), s.HostReady (.amend h a) →
    s.record h = some r → r.living = true → a.cls = some c → c ≠ r.cls →
    s.occupancy c < (s.classSettings c).capacity → h ∉ s.lists.get c →
    let cap : Int := (s.classSettings c).balanceCap
    let initial : Int := (s.classSettings c).initialBalance
    let low := if cap < r.balance then min r.lowest cap else r.lowest
    let u : Record := { r with
      cls := c
      balance := if a.toInitial then initial else min r.balance cap
      lowest := if a.toInitial then min low initial else low
      weight := a.weight.getD r.weight
      label := a.label.getD r.label
      lingerOverride := a.lingerOverride.getD r.lingerOverride
      burstOverride := a.burstOverride.getD r.burstOverride
      state :=
        if a.barred = some true then .barred
        else if a.barred = some false ∧ r.state = .barred then
          (if r.psMark = .awake then .active else .dozing)
        else r.state }
    ∃ t, exec .amend s = .next t ∧ EndsHost s t .done [.records, .lists, .skip] ∧
      OneRecord s t h (some u) ∧
      t.lists.get r.cls = (s.lists.get r.cls).erase h ∧
      t.lists.get c = (if u.eligible then s.lists.get c ++ [h] else s.lists.get c) ∧
      (∀ d, d ≠ c → d ≠ r.cls → t.lists.get d = s.lists.get d) ∧
      t.skip = judgedSkip s r.cls h false)

/-- RETIRE (R45, R46): NOT_LIVE for a FREE record, ALREADY_RETIRING for a RETIRING one; a living record leaves
its list and becomes FREE with no ticket held, answered FREED with its consumed, or RETIRING of cause
HOST, answered DRAINING with its tickets held. No notice is made. -/
def Obligations.Retire : Prop :=
  ∀ (s : State) (h : Nat), s.HostReady (.retire h) →
    (s.record h = none → ∃ t, exec .retire s = .next t ∧ EndsHost s t .notLive []) ∧
    (∀ r, s.record h = some r → r.living = false →
      ∃ t, exec .retire s = .next t ∧ EndsHost s t (.alreadyRetiring r.held) []) ∧
    (∀ r, s.record h = some r → r.living = true → r.held = 0 → ∃ t, exec .retire s = .next t ∧
      EndsHost s t (.freed h r.address r.label r.consumed) [.records, .lists, .skip] ∧
      OneRecord s t h none ∧ Judged s t r.cls h false) ∧
    (∀ r, s.record h = some r → r.living = true → 0 < r.held → ∃ t, exec .retire s = .next t ∧
      EndsHost s t (.draining h r.held) [.records, .lists, .skip] ∧
      OneRecord s t h (some { r with state := .retiring .host }) ∧ Judged s t r.cls h false)

/-- LOOKUP's body (R16): one address of six bytes, most significant byte first; a body of any other length is
refused with BAD_FIELD without a transaction. The request answers KNOWN with the handle found in one transaction, or UNKNOWN, and
changes nothing, the Stranger Filter included. -/
def Obligations.Lookup : Prop :=
  (∀ (settings : Settings) (body : List Byte), body.length ≠ 6 →
    parseRequest settings 0x05 body = some none) ∧
  (∀ (settings : Settings) (a : Address),
    parseRequest settings 0x05 (bytesOfNat 6 a.toNat) = some (some (.lookup a))) ∧
  (∀ (s : State) (span : SpiSpan) (bytes body : List Byte) (k : Nat), s.inReset = false →
    EndsLatched s span .idle → s.req.port = .idle → SoundFrame bytes 0x05 body → body.length ≠ 6 →
    ∃ t, exec (.submit span bytes k) s = .next t ∧ t.req.port = .answerReady .badField ∧
      UnchangedExcept [.req] s t) ∧
  (∀ a, (Request.lookup a).usesTable = true) ∧
  (∀ (s : State) (a : Address), s.HostReady (.lookup a) → ∃ t, exec .lookup s = .next t ∧
    (∀ h, s.indexLookup a = some h → EndsHost s t (.known h) []) ∧
    (s.indexLookup a = none → EndsHost s t .unknown []))

/-- LIST and READ_TICKETS (R26, R140, R141): the list length and the handles from a position on, at most the
count; the state of every ticket, the time left 0 once its deadline is reached, and the pool head first.
Both change nothing. -/
def Obligations.ListAndReadTickets : Prop :=
  (∀ (s : State) (c : Cls) (start count : Nat), s.HostReady (.list c start count) →
    ∃ t handles, exec .list s = .next t ∧
      EndsHost s t (.listed c (s.lists.get c).length start handles) [] ∧
      handles.length = min count ((s.lists.get c).length - start) ∧
      (∀ k < handles.length, handles[k]? = (s.lists.get c)[start + k]?)) ∧
  (∀ s : State, s.HostReady .readTickets → ∃ t, exec .readTickets s = .next t ∧
    EndsHost s t (.tickets ((List.range 24).map fun n => ⟨(s.ticket n).seq,
      (s.ticket n).issue.map fun i => ⟨i.holder, i.limit, i.left.toNat⟩⟩) s.pool) [])

/-- READ_RECORD (R21 to R24, R9): FREE for a FREE record; else RECORD with the fields, the tier derived from
the rate, the listed mark, and the successor of a listed record, itself at the tail. With clear YES the
watermarks are then set to the current balance and backlog. -/
def Obligations.ReadRecord : Prop :=
  ∀ (s : State) (h : Nat) (clear : Bool), s.HostReady (.readRecord h clear) →
    (s.record h = none → ∃ t, exec .readRecord s = .next t ∧ EndsHost s t (.free h) []) ∧
    (∀ r k e, s.record h = some r → s.settings.tierOf r.rate = some (k, e) →
      ∃ t next, exec .readRecord s = .next t ∧
        EndsHost s t (.record ⟨h, r, k, decide (h ∈ s.lists.get r.cls), next⟩) [.records] ∧
        OneRecord s t h
          (some (if clear then { r with lowest := r.balance, highest := r.backlog } else r)) ∧
        (h ∉ s.lists.get r.cls → next = none) ∧
        (∀ front x back, h ∉ front → s.lists.get r.cls = front ++ h :: x :: back → next = some x) ∧
        (∀ front, h ∉ front → s.lists.get r.cls = front ++ [h] → next = some h))

/-! ### Settings -/

/-- SET_CLASS (R35, R36): a capacity item below the occupancy is answered IN_USE and nothing changes; else
every item replaces its setting, and a lowered balance cap clips every record of the class above it, the
lowest balance following. -/
def Obligations.SetClass : Prop :=
  ∀ (s : State) (c : Cls) (i : ClassItems), s.HostReady (.setClass c i) →
    (∀ n, i.capacity = some n → n < s.occupancy c →
      ∃ t, exec .setClass s = .next t ∧ EndsHost s t (.inUse (s.occupancy c)) []) ∧
    ((∀ n, i.capacity = some n → s.occupancy c ≤ n) →
      let old := s.classSettings c
      let cap := i.balanceCap.getD old.balanceCap
      ∃ t, exec .setClass s = .next t ∧ EndsHost s t .done [.records, .settings] ∧
        t.settings = { s.settings with classes := t.settings.classes } ∧
        (∀ d, d ≠ c → t.classSettings d = s.classSettings d) ∧
        t.classSettings c = ⟨i.capacity.getD old.capacity, i.lingerReload.getD old.lingerReload,
          i.autoRetire.getD old.autoRetire, i.ticketCap.getD old.ticketCap,
          i.initialBalance.getD old.initialBalance, cap⟩ ∧
        (∀ h, t.record h = (s.record h).map fun r =>
          if r.cls = c ∧ cap < old.balanceCap ∧ (cap : Int) < r.balance then
            { r with balance := cap, lowest := min r.lowest cap }
          else r))

/-- A record's tier (R75): in a well-formed Tier Table it is the valid entry of the lowest index whose rate
limit is at least the rate, and above every valid limit the highest valid entry. -/
def Obligations.TierOfRate : Prop :=
  ∀ (s : Settings) (rate k : Nat) (e : TierEntry), s.TierLaw →
    (s.tierOf rate = some (k, e) ↔
      s.tier k = some e ∧ (∀ j d, j < k → s.tier j = some d → d.rateLimit < rate) ∧
        (rate ≤ e.rateLimit ∨ s.tier (k + 1) = none))

/-- SET_TIER WRITE (R78) and INVALIDATE (R79): ORDER with the number of valid entries when an order check
applies, nothing changed; else entry k takes the five values, or becomes invalid, and no other entry
changes. -/
def Obligations.SetTier : Prop :=
  ∀ (s : State) (k : Nat), k < 8 →
    let valid := ((List.range 8).filter fun j => (s.settings.tier j).isSome).length
    (∀ e, s.HostReady (.setTierWrite k e) →
      let broken := (0 < k ∧ s.settings.tier (k - 1) = none) ∨
        (0 < k ∧ ∃ d, s.settings.tier (k - 1) = some d ∧ e.rateLimit ≤ d.rateLimit) ∨
        (k < 7 ∧ ∃ d, s.settings.tier (k + 1) = some d ∧ d.rateLimit ≤ e.rateLimit)
      (broken → ∃ t, exec .setTierWrite s = .next t ∧ EndsHost s t (.order valid) []) ∧
      (¬ broken → ∃ t, exec .setTierWrite s = .next t ∧ EndsHost s t .done [.settings] ∧
        t.settings = { s.settings with tiers := t.settings.tiers } ∧
        t.settings.tier k = some e ∧ ∀ j, j ≠ k → t.settings.tier j = s.settings.tier j)) ∧
    (s.HostReady (.setTierInvalidate k) →
      let broken := s.settings.tier k = none ∨ s.settings.tier (k + 1) ≠ none ∨ k = 0
      (broken → ∃ t, exec .setTierInvalidate s = .next t ∧ EndsHost s t (.order valid) []) ∧
      (¬ broken → ∃ t, exec .setTierInvalidate s = .next t ∧ EndsHost s t .done [.settings] ∧
        t.settings = { s.settings with tiers := t.settings.tiers } ∧
        t.settings.tier k = none ∧ ∀ j, j ≠ k → t.settings.tier j = s.settings.tier j))

/-- SET_SCHEDULER (R114), SET_PRESENCE (R71, R72) and SET_NOTICE (R175): every item carried replaces its
setting and no other setting changes; a pass period reloads the period timer at once; a new coalesce count
that the notices held reach asserts a released ATTN and stops the timer. -/
def Obligations.SettingsGroups : Prop :=
  (∀ (s : State) (i : SchedulerItems), s.HostReady (.setScheduler i) →
    ∃ t, exec .setScheduler s = .next t ∧ EndsHost s t .done [.settings] ∧
      t.settings = { s.settings with scheduler :=
        ⟨i.ticketLifetime.getD s.settings.scheduler.ticketLifetime,
          i.podiumShare.getD s.settings.scheduler.podiumShare,
          i.backgroundInterval.getD s.settings.scheduler.backgroundInterval⟩ }) ∧
  (∀ (s : State) (i : PresenceItems), s.HostWorking (.setPresence i) →
    ∃ t, exec .setPresence s = .next t ∧ AnswersDirectly s t .done [.settings, .sweeper] ∧
      t.settings = { s.settings with presence :=
        ⟨i.passPeriod.getD s.settings.presence.passPeriod,
          i.mgmtSwitch.getD s.settings.presence.mgmtSwitch,
          i.dataSwitch.getD s.settings.presence.dataSwitch,
          i.ctrlSwitch.getD s.settings.presence.ctrlSwitch⟩ } ∧
      t.sweeper = ⟨(i.passPeriod.map (· * 1000)).getD s.sweeper.periodLeft, s.sweeper.pass⟩) ∧
  (∀ (s : State) (i : NoticeItems), s.HostWorking (.setNotice i) →
    ∃ t, exec .setNotice s = .next t ∧ AnswersDirectly s t .done [.settings, .notices] ∧
      t.settings = { s.settings with notice :=
        ⟨i.coalesceCount.getD s.settings.notice.coalesceCount,
          i.coalesceTime.getD s.settings.notice.coalesceTime⟩ } ∧
      ((∃ n, i.coalesceCount = some n ∧ s.notices.attn = false ∧ n ≤ s.notices.queue.length) →
        t.notices = { s.notices with attn := true, timer := none }) ∧
      ((∀ n, i.coalesceCount = some n → s.notices.attn = true ∨ s.notices.queue.length < n) →
        t.notices = s.notices))

/-- SET_GOVERNOR (R153, R147): without an item it changes nothing; else every item is applied, the usages are
cleared and a new window of the window setting begins; a request that sets the mode OFF makes a CROWDED
state CALM and the countdown 0, with a GOVERNOR notice of the last utilization. -/
def Obligations.SetGovernor : Prop :=
  ∀ (s : State) (i : GovernorItems), s.HostWorking (.setGovernor i) →
    (i = ⟨none, none, none, none, none⟩ →
      ∃ t, exec .setGovernor s = .next t ∧ AnswersDirectly s t .done []) ∧
    (i ≠ ⟨none, none, none, none, none⟩ →
      let c := s.settings.governor
      let window := i.window.getD c.window
      let forced := i.mode = some false ∧ s.gov.load = .crowded
      ∃ t, exec .setGovernor s = .next t ∧ AnswersDirectly s t .done [.settings, .gov, .notices] ∧
        t.settings = { s.settings with governor :=
          ⟨i.mode.getD c.mode, window, i.enter.getD c.enter, i.exit.getD c.exit,
            i.minHold.getD c.minHold⟩ } ∧
        t.gov = { s.gov with
          windowUsage := 0
          podiumUsage := 0
          windowLeft := window * 1000
          load := if forced then .calm else s.gov.load
          countdown := if forced then 0 else s.gov.countdown } ∧
        NoticesMade s t (if forced then [.governor .calm s.gov.lastUtilization] else []))

/-! ### HOLD, readings, notices -/

/-- HOLD (R156): a body of two bytes that gives at most 4,000 ms is the request, any other is refused with
BAD_FIELD; the hold counter takes the duration × 1,000 µs, whatever it held, without a table transaction
and whatever the state of the Medium Engine. A RESYNC that follows clears it. -/
def Obligations.HoldRequest : Prop :=
  (∀ (settings : Settings) (body : List Byte),
    parseRequest settings 0x1A body = some
      (if body.length = 2 ∧ natOfBytes body ≤ 4000 then some (.hold (natOfBytes body)) else none)) ∧
  (∀ (s : State) (span : SpiSpan) (bytes body : List Byte) (k : Nat), s.inReset = false →
    EndsLatched s span .idle → s.req.port = .idle → SoundFrame bytes 0x1A body →
    (body.length ≠ 2 ∨ 4000 < natOfBytes body) →
    ∃ t, exec (.submit span bytes k) s = .next t ∧ t.req.port = .answerReady .badField ∧
      UnchangedExcept [.req] s t) ∧
  (∀ ms, (Request.hold ms).usesTable = false) ∧
  (∀ (s : State) (ms : Nat), s.HostWorking (.hold ms) → ∃ t, exec .hold s = .next t ∧
    AnswersDirectly s t .done [.gov] ∧ t.gov = { s.gov with hold := ms * 1000 }) ∧
  (∀ (s : State) (tag : BitVec 4), s.MediumReady tag .resync →
    ∃ t, exec .resync s = .next t ∧ t.gov.hold = 0)

/-- IDENTIFY (R183), READ_GOVERNOR (R150) and READ_SETTINGS (R182): each answers with what stands at one
moment; only a READ_GOVERNOR with clear YES changes anything, the busiest mark to 0 after it has been read.
CLASS, TIER and SCHEDULER are read in a transaction, the other groups without one. -/
def Obligations.Readings : Prop :=
  (∀ s : State, s.HostWorking .identify → ∃ t, exec .identify s = .next t ∧
    AnswersDirectly s t (.identity s.resetRecord) []) ∧
  (∀ (s : State) (clear : Bool), s.HostWorking (.readGovernor clear) →
    ∃ t, exec .readGovernor s = .next t ∧
      AnswersDirectly s t (.governorState s.gov.load s.gov.countdown s.gov.windowUsage
        s.gov.podiumUsage s.gov.lastUtilization s.gov.busiest s.gov.hold) [.gov] ∧
      t.gov = { s.gov with busiest := if clear then 0 else s.gov.busiest }) ∧
  (∀ s : State, s.HostReady (.readSettings .classes) → ∃ t, exec .readSettings s = .next t ∧
    EndsHost s t (.settings (.classes s.settings.classes
      ⟨s.occupancy .podium, s.occupancy .seat, s.occupancy .background⟩)) []) ∧
  (∀ s : State, s.HostReady (.readSettings .tiers) → ∃ t, exec .readSettings s = .next t ∧
    EndsHost s t (.settings (.tiers s.settings.tiers)) []) ∧
  (∀ s : State, s.HostReady (.readSettings .scheduler) → ∃ t, exec .readSettings s = .next t ∧
    EndsHost s t (.settings (.scheduler s.settings.scheduler s.skip)) []) ∧
  (∀ s : State, s.HostWorking (.readSettings .presence) → ∃ t, exec .readSettings s = .next t ∧
    AnswersDirectly s t (.settings (.presence s.settings.presence)) []) ∧
  (∀ s : State, s.HostWorking (.readSettings .governor) → ∃ t, exec .readSettings s = .next t ∧
    AnswersDirectly s t (.settings (.governor s.settings.governor)) []) ∧
  (∀ s : State, s.HostWorking (.readSettings .notice) → ∃ t, exec .readSettings s = .next t ∧
    AnswersDirectly s t (.settings (.notice s.settings.notice)) [])

/-- FETCH_NOTICES (R172, R174): the oldest notices, at most the maximum, are removed and returned with the
overflow mark as it stood and the number left; the mark is cleared, and ATTN and the timer are set from
the number left. -/
def Obligations.FetchNotices : Prop :=
  ∀ (s : State) (maximum : Nat), s.HostWorking (.fetchNotices maximum) →
    1 ≤ s.settings.notice.coalesceCount →
    ∃ t returned, exec .fetchNotices s = .next t ∧
      AnswersDirectly s t (.notices s.notices.overflow returned t.notices.queue.length) [.notices] ∧
      s.notices.queue = returned ++ t.notices.queue ∧
      returned.length = min maximum s.notices.queue.length ∧ t.notices.overflow = false ∧
      (t.notices.queue = [] → t.notices.attn = false ∧ t.notices.timer = none) ∧
      (t.notices.queue ≠ [] → t.notices.queue.length < s.settings.notice.coalesceCount →
        t.notices.attn = false ∧
        t.notices.timer = some (s.settings.notice.coalesceTime * 1000)) ∧
      (s.settings.notice.coalesceCount ≤ t.notices.queue.length →
        t.notices.attn = true ∧ t.notices.timer = none)

/-- A notice offered to the queue (R171, R173): a full queue discards it and sets the overflow mark; else it
joins the tail, and with ATTN released the coalesce count reached asserts ATTN and stops the timer, while a
first notice below the count starts the timer. -/
def Obligations.NoticeOffered : Prop :=
  ∀ (s : State) (b : NoticeBody),
    let n : Notice := ⟨s.time.ms, b⟩
    let t := s.notify b
    let held := s.notices.queue.length
    UnchangedExcept [.notices] s t ∧
    (32 ≤ held → t.notices = { s.notices with overflow := true }) ∧
    (held < 32 → t.notices.queue = s.notices.queue ++ [n] ∧
      t.notices.overflow = s.notices.overflow ∧
      (s.notices.attn = true → t.notices.attn = true ∧ t.notices.timer = s.notices.timer) ∧
      (s.notices.attn = false → s.settings.notice.coalesceCount ≤ held + 1 →
        t.notices.attn = true ∧ t.notices.timer = none) ∧
      (s.notices.attn = false → held + 1 < s.settings.notice.coalesceCount → held = 0 →
        t.notices.attn = false ∧
        t.notices.timer = some (s.settings.notice.coalesceTime * 1000)) ∧
      (s.notices.attn = false → held + 1 < s.settings.notice.coalesceCount → 0 < held →
        t.notices.attn = false ∧ t.notices.timer = s.notices.timer))

/-! ### The laws that every step keeps -/

/-- After every step: every ticket is in the free pool or ISSUED, and the pool holds none twice (R119); tickets
held counts the tickets ISSUED to a record, at most 4 (R120, R12, R13). -/
def Obligations.StepKeepsTicketLaws : Prop :=
  (∀ s t : State, s.PoolLaw → step s = .next t → t.PoolLaw) ∧
  (∀ s t : State, s.PoolLaw → s.ClassSettingsLaw → s.HolderLaw → step s = .next t → t.HolderLaw)

/-- After every step: a record is in a service list exactly when it is ACTIVE with backlog above 0, in the
list of its own class only and only once (R91); no two living records share a station address (R14). -/
def Obligations.StepKeepsListAndIndexLaws : Prop :=
  (∀ s t : State, s.ListLaw → step s = .next t → t.ListLaw) ∧
  (∀ s t : State, s.IndexLaw → step s = .next t → t.IndexLaw)

/-- R86: every balance lies between −32,768 and the balance cap of its class, after every step. -/
def Obligations.StepKeepsBalanceLaw : Prop :=
  ∀ s t : State, s.ClassSettingsLaw → s.BalanceLaw → step s = .next t → t.BalanceLaw

/-- Every law of the part holds after every step when all hold before it. -/
def Obligations.StepKeepsLawful : Prop :=
  ∀ s t : State, s.Lawful → step s = .next t → t.Lawful
end

