-- ==== Sys2Proof/Laws/State.lean ====
section
/-! SUPPORT. One lemma for each field of State under each named update: the field's new value, or that it
is as it was. All are true by rfl and tagged simp, so that no proof unfolds a record update. -/

namespace Sys2Proof.Machine

variable (s : State)

/-! ### putRecord -/

@[simp] theorem State.putRecord_pending (h : Nat) (r : Option Record) :
    (s.putRecord h r).pending = s.pending := rfl
@[simp] theorem State.putRecord_pins (h : Nat) (r : Option Record) :
    (s.putRecord h r).pins = s.pins := rfl
@[simp] theorem State.putRecord_resetRecord (h : Nat) (r : Option Record) :
    (s.putRecord h r).resetRecord = s.resetRecord := rfl
@[simp] theorem State.putRecord_time (h : Nat) (r : Option Record) :
    (s.putRecord h r).time = s.time := rfl
@[simp] theorem State.putRecord_arbiter (h : Nat) (r : Option Record) :
    (s.putRecord h r).arbiter = s.arbiter := rfl
@[simp] theorem State.putRecord_records (h : Nat) (r : Option Record) :
    (s.putRecord h r).records = s.records.setIfInBounds h r := rfl
@[simp] theorem State.putRecord_lists (h : Nat) (r : Option Record) :
    (s.putRecord h r).lists = s.lists := rfl
@[simp] theorem State.putRecord_skip (h : Nat) (r : Option Record) :
    (s.putRecord h r).skip = s.skip := rfl
@[simp] theorem State.putRecord_tickets (h : Nat) (r : Option Record) :
    (s.putRecord h r).tickets = s.tickets := rfl
@[simp] theorem State.putRecord_pool (h : Nat) (r : Option Record) :
    (s.putRecord h r).pool = s.pool := rfl
@[simp] theorem State.putRecord_timerAsked (h : Nat) (r : Option Record) :
    (s.putRecord h r).timerAsked = s.timerAsked := rfl
@[simp] theorem State.putRecord_gov (h : Nat) (r : Option Record) :
    (s.putRecord h r).gov = s.gov := rfl
@[simp] theorem State.putRecord_sweeper (h : Nat) (r : Option Record) :
    (s.putRecord h r).sweeper = s.sweeper := rfl
@[simp] theorem State.putRecord_strangers (h : Nat) (r : Option Record) :
    (s.putRecord h r).strangers = s.strangers := rfl
@[simp] theorem State.putRecord_medium (h : Nat) (r : Option Record) :
    (s.putRecord h r).medium = s.medium := rfl
@[simp] theorem State.putRecord_notices (h : Nat) (r : Option Record) :
    (s.putRecord h r).notices = s.notices := rfl
@[simp] theorem State.putRecord_req (h : Nat) (r : Option Record) :
    (s.putRecord h r).req = s.req := rfl
@[simp] theorem State.putRecord_settings (h : Nat) (r : Option Record) :
    (s.putRecord h r).settings = s.settings := rfl

/-! ### mapRecords -/

@[simp] theorem State.mapRecords_pending (f : Record → Record) :
    (s.mapRecords f).pending = s.pending := rfl
@[simp] theorem State.mapRecords_pins (f : Record → Record) : (s.mapRecords f).pins = s.pins := rfl
@[simp] theorem State.mapRecords_resetRecord (f : Record → Record) :
    (s.mapRecords f).resetRecord = s.resetRecord := rfl
@[simp] theorem State.mapRecords_time (f : Record → Record) : (s.mapRecords f).time = s.time := rfl
@[simp] theorem State.mapRecords_arbiter (f : Record → Record) :
    (s.mapRecords f).arbiter = s.arbiter := rfl
@[simp] theorem State.mapRecords_records (f : Record → Record) :
    (s.mapRecords f).records = s.records.map (Option.map f) := rfl
@[simp] theorem State.mapRecords_lists (f : Record → Record) :
    (s.mapRecords f).lists = s.lists := rfl
@[simp] theorem State.mapRecords_skip (f : Record → Record) : (s.mapRecords f).skip = s.skip := rfl
@[simp] theorem State.mapRecords_tickets (f : Record → Record) :
    (s.mapRecords f).tickets = s.tickets := rfl
@[simp] theorem State.mapRecords_pool (f : Record → Record) : (s.mapRecords f).pool = s.pool := rfl
@[simp] theorem State.mapRecords_timerAsked (f : Record → Record) :
    (s.mapRecords f).timerAsked = s.timerAsked := rfl
@[simp] theorem State.mapRecords_gov (f : Record → Record) : (s.mapRecords f).gov = s.gov := rfl
@[simp] theorem State.mapRecords_sweeper (f : Record → Record) :
    (s.mapRecords f).sweeper = s.sweeper := rfl
@[simp] theorem State.mapRecords_strangers (f : Record → Record) :
    (s.mapRecords f).strangers = s.strangers := rfl
@[simp] theorem State.mapRecords_medium (f : Record → Record) :
    (s.mapRecords f).medium = s.medium := rfl
@[simp] theorem State.mapRecords_notices (f : Record → Record) :
    (s.mapRecords f).notices = s.notices := rfl
@[simp] theorem State.mapRecords_req (f : Record → Record) : (s.mapRecords f).req = s.req := rfl
@[simp] theorem State.mapRecords_settings (f : Record → Record) :
    (s.mapRecords f).settings = s.settings := rfl

/-! ### joinTail -/

@[simp] theorem State.joinTail_pending (c : Cls) (h : Nat) :
    (s.joinTail c h).pending = s.pending := rfl
@[simp] theorem State.joinTail_pins (c : Cls) (h : Nat) : (s.joinTail c h).pins = s.pins := rfl
@[simp] theorem State.joinTail_resetRecord (c : Cls) (h : Nat) :
    (s.joinTail c h).resetRecord = s.resetRecord := rfl
@[simp] theorem State.joinTail_time (c : Cls) (h : Nat) : (s.joinTail c h).time = s.time := rfl
@[simp] theorem State.joinTail_arbiter (c : Cls) (h : Nat) :
    (s.joinTail c h).arbiter = s.arbiter := rfl
@[simp] theorem State.joinTail_records (c : Cls) (h : Nat) :
    (s.joinTail c h).records = s.records := rfl
@[simp] theorem State.joinTail_lists (c : Cls) (h : Nat) :
    (s.joinTail c h).lists = s.lists.set c (s.lists.get c ++ [h]) := rfl
@[simp] theorem State.joinTail_skip (c : Cls) (h : Nat) : (s.joinTail c h).skip = s.skip := rfl
@[simp] theorem State.joinTail_tickets (c : Cls) (h : Nat) :
    (s.joinTail c h).tickets = s.tickets := rfl
@[simp] theorem State.joinTail_pool (c : Cls) (h : Nat) : (s.joinTail c h).pool = s.pool := rfl
@[simp] theorem State.joinTail_timerAsked (c : Cls) (h : Nat) :
    (s.joinTail c h).timerAsked = s.timerAsked := rfl
@[simp] theorem State.joinTail_gov (c : Cls) (h : Nat) : (s.joinTail c h).gov = s.gov := rfl
@[simp] theorem State.joinTail_sweeper (c : Cls) (h : Nat) :
    (s.joinTail c h).sweeper = s.sweeper := rfl
@[simp] theorem State.joinTail_strangers (c : Cls) (h : Nat) :
    (s.joinTail c h).strangers = s.strangers := rfl
@[simp] theorem State.joinTail_medium (c : Cls) (h : Nat) :
    (s.joinTail c h).medium = s.medium := rfl
@[simp] theorem State.joinTail_notices (c : Cls) (h : Nat) :
    (s.joinTail c h).notices = s.notices := rfl
@[simp] theorem State.joinTail_req (c : Cls) (h : Nat) : (s.joinTail c h).req = s.req := rfl
@[simp] theorem State.joinTail_settings (c : Cls) (h : Nat) :
    (s.joinTail c h).settings = s.settings := rfl

/-! ### rotate -/

@[simp] theorem State.rotate_pending (c : Cls) : (s.rotate c).pending = s.pending := rfl
@[simp] theorem State.rotate_pins (c : Cls) : (s.rotate c).pins = s.pins := rfl
@[simp] theorem State.rotate_resetRecord (c : Cls) : (s.rotate c).resetRecord = s.resetRecord := rfl
@[simp] theorem State.rotate_time (c : Cls) : (s.rotate c).time = s.time := rfl
@[simp] theorem State.rotate_arbiter (c : Cls) : (s.rotate c).arbiter = s.arbiter := rfl
@[simp] theorem State.rotate_records (c : Cls) : (s.rotate c).records = s.records := rfl
@[simp] theorem State.rotate_lists (c : Cls) :
    (s.rotate c).lists = s.lists.set c (rotated (s.lists.get c)) := rfl
@[simp] theorem State.rotate_skip (c : Cls) : (s.rotate c).skip = s.skip := rfl
@[simp] theorem State.rotate_tickets (c : Cls) : (s.rotate c).tickets = s.tickets := rfl
@[simp] theorem State.rotate_pool (c : Cls) : (s.rotate c).pool = s.pool := rfl
@[simp] theorem State.rotate_timerAsked (c : Cls) : (s.rotate c).timerAsked = s.timerAsked := rfl
@[simp] theorem State.rotate_gov (c : Cls) : (s.rotate c).gov = s.gov := rfl
@[simp] theorem State.rotate_sweeper (c : Cls) : (s.rotate c).sweeper = s.sweeper := rfl
@[simp] theorem State.rotate_strangers (c : Cls) : (s.rotate c).strangers = s.strangers := rfl
@[simp] theorem State.rotate_medium (c : Cls) : (s.rotate c).medium = s.medium := rfl
@[simp] theorem State.rotate_notices (c : Cls) : (s.rotate c).notices = s.notices := rfl
@[simp] theorem State.rotate_req (c : Cls) : (s.rotate c).req = s.req := rfl
@[simp] theorem State.rotate_settings (c : Cls) : (s.rotate c).settings = s.settings := rfl

/-! ### putTicket -/

@[simp] theorem State.putTicket_pending (n : Nat) (t : Ticket) :
    (s.putTicket n t).pending = s.pending := rfl
@[simp] theorem State.putTicket_pins (n : Nat) (t : Ticket) : (s.putTicket n t).pins = s.pins := rfl
@[simp] theorem State.putTicket_resetRecord (n : Nat) (t : Ticket) :
    (s.putTicket n t).resetRecord = s.resetRecord := rfl
@[simp] theorem State.putTicket_time (n : Nat) (t : Ticket) : (s.putTicket n t).time = s.time := rfl
@[simp] theorem State.putTicket_arbiter (n : Nat) (t : Ticket) :
    (s.putTicket n t).arbiter = s.arbiter := rfl
@[simp] theorem State.putTicket_records (n : Nat) (t : Ticket) :
    (s.putTicket n t).records = s.records := rfl
@[simp] theorem State.putTicket_lists (n : Nat) (t : Ticket) :
    (s.putTicket n t).lists = s.lists := rfl
@[simp] theorem State.putTicket_skip (n : Nat) (t : Ticket) : (s.putTicket n t).skip = s.skip := rfl
@[simp] theorem State.putTicket_tickets (n : Nat) (t : Ticket) :
    (s.putTicket n t).tickets = s.tickets.setIfInBounds n t := rfl
@[simp] theorem State.putTicket_pool (n : Nat) (t : Ticket) : (s.putTicket n t).pool = s.pool := rfl
@[simp] theorem State.putTicket_timerAsked (n : Nat) (t : Ticket) :
    (s.putTicket n t).timerAsked = s.timerAsked := rfl
@[simp] theorem State.putTicket_gov (n : Nat) (t : Ticket) : (s.putTicket n t).gov = s.gov := rfl
@[simp] theorem State.putTicket_sweeper (n : Nat) (t : Ticket) :
    (s.putTicket n t).sweeper = s.sweeper := rfl
@[simp] theorem State.putTicket_strangers (n : Nat) (t : Ticket) :
    (s.putTicket n t).strangers = s.strangers := rfl
@[simp] theorem State.putTicket_medium (n : Nat) (t : Ticket) :
    (s.putTicket n t).medium = s.medium := rfl
@[simp] theorem State.putTicket_notices (n : Nat) (t : Ticket) :
    (s.putTicket n t).notices = s.notices := rfl
@[simp] theorem State.putTicket_req (n : Nat) (t : Ticket) : (s.putTicket n t).req = s.req := rfl
@[simp] theorem State.putTicket_settings (n : Nat) (t : Ticket) :
    (s.putTicket n t).settings = s.settings := rfl

/-! ### returnTicket -/

@[simp] theorem State.returnTicket_pending (n : Nat) : (s.returnTicket n).pending = s.pending := rfl
@[simp] theorem State.returnTicket_pins (n : Nat) : (s.returnTicket n).pins = s.pins := rfl
@[simp] theorem State.returnTicket_resetRecord (n : Nat) :
    (s.returnTicket n).resetRecord = s.resetRecord := rfl
@[simp] theorem State.returnTicket_time (n : Nat) : (s.returnTicket n).time = s.time := rfl
@[simp] theorem State.returnTicket_arbiter (n : Nat) : (s.returnTicket n).arbiter = s.arbiter := rfl
@[simp] theorem State.returnTicket_records (n : Nat) : (s.returnTicket n).records = s.records := rfl
@[simp] theorem State.returnTicket_lists (n : Nat) : (s.returnTicket n).lists = s.lists := rfl
@[simp] theorem State.returnTicket_skip (n : Nat) : (s.returnTicket n).skip = s.skip := rfl
@[simp] theorem State.returnTicket_tickets (n : Nat) :
    (s.returnTicket n).tickets = s.tickets.setIfInBounds n ⟨(s.ticket n).seq, none⟩ := rfl
@[simp] theorem State.returnTicket_pool (n : Nat) : (s.returnTicket n).pool = s.pool ++ [n] := rfl
@[simp] theorem State.returnTicket_timerAsked (n : Nat) :
    (s.returnTicket n).timerAsked = s.timerAsked := rfl
@[simp] theorem State.returnTicket_gov (n : Nat) : (s.returnTicket n).gov = s.gov := rfl
@[simp] theorem State.returnTicket_sweeper (n : Nat) : (s.returnTicket n).sweeper = s.sweeper := rfl
@[simp] theorem State.returnTicket_strangers (n : Nat) :
    (s.returnTicket n).strangers = s.strangers := rfl
@[simp] theorem State.returnTicket_medium (n : Nat) : (s.returnTicket n).medium = s.medium := rfl
@[simp] theorem State.returnTicket_notices (n : Nat) : (s.returnTicket n).notices = s.notices := rfl
@[simp] theorem State.returnTicket_req (n : Nat) : (s.returnTicket n).req = s.req := rfl
@[simp] theorem State.returnTicket_settings (n : Nat) :
    (s.returnTicket n).settings = s.settings := rfl

/-! ### returnAll -/

@[simp] theorem State.returnAll_pending : (s.returnAll).pending = s.pending := rfl
@[simp] theorem State.returnAll_pins : (s.returnAll).pins = s.pins := rfl
@[simp] theorem State.returnAll_resetRecord : (s.returnAll).resetRecord = s.resetRecord := rfl
@[simp] theorem State.returnAll_time : (s.returnAll).time = s.time := rfl
@[simp] theorem State.returnAll_arbiter : (s.returnAll).arbiter = s.arbiter := rfl
@[simp] theorem State.returnAll_records : (s.returnAll).records = s.records := rfl
@[simp] theorem State.returnAll_lists : (s.returnAll).lists = s.lists := rfl
@[simp] theorem State.returnAll_skip : (s.returnAll).skip = s.skip := rfl
@[simp] theorem State.returnAll_tickets :
    (s.returnAll).tickets = s.tickets.map fun t => { t with issue := none } := rfl
@[simp] theorem State.returnAll_pool : (s.returnAll).pool = s.pool ++ s.issuedTickets := rfl
@[simp] theorem State.returnAll_timerAsked : (s.returnAll).timerAsked = s.timerAsked := rfl
@[simp] theorem State.returnAll_gov : (s.returnAll).gov = s.gov := rfl
@[simp] theorem State.returnAll_sweeper : (s.returnAll).sweeper = s.sweeper := rfl
@[simp] theorem State.returnAll_strangers : (s.returnAll).strangers = s.strangers := rfl
@[simp] theorem State.returnAll_medium : (s.returnAll).medium = s.medium := rfl
@[simp] theorem State.returnAll_notices : (s.returnAll).notices = s.notices := rfl
@[simp] theorem State.returnAll_req : (s.returnAll).req = s.req := rfl
@[simp] theorem State.returnAll_settings : (s.returnAll).settings = s.settings := rfl

/-! ### notify -/

@[simp] theorem State.notify_pending (b : NoticeBody) : (s.notify b).pending = s.pending := rfl
@[simp] theorem State.notify_pins (b : NoticeBody) : (s.notify b).pins = s.pins := rfl
@[simp] theorem State.notify_resetRecord (b : NoticeBody) :
    (s.notify b).resetRecord = s.resetRecord := rfl
@[simp] theorem State.notify_time (b : NoticeBody) : (s.notify b).time = s.time := rfl
@[simp] theorem State.notify_arbiter (b : NoticeBody) : (s.notify b).arbiter = s.arbiter := rfl
@[simp] theorem State.notify_records (b : NoticeBody) : (s.notify b).records = s.records := rfl
@[simp] theorem State.notify_lists (b : NoticeBody) : (s.notify b).lists = s.lists := rfl
@[simp] theorem State.notify_skip (b : NoticeBody) : (s.notify b).skip = s.skip := rfl
@[simp] theorem State.notify_tickets (b : NoticeBody) : (s.notify b).tickets = s.tickets := rfl
@[simp] theorem State.notify_pool (b : NoticeBody) : (s.notify b).pool = s.pool := rfl
@[simp] theorem State.notify_timerAsked (b : NoticeBody) :
    (s.notify b).timerAsked = s.timerAsked := rfl
@[simp] theorem State.notify_gov (b : NoticeBody) : (s.notify b).gov = s.gov := rfl
@[simp] theorem State.notify_sweeper (b : NoticeBody) : (s.notify b).sweeper = s.sweeper := rfl
@[simp] theorem State.notify_strangers (b : NoticeBody) :
    (s.notify b).strangers = s.strangers := rfl
@[simp] theorem State.notify_medium (b : NoticeBody) : (s.notify b).medium = s.medium := rfl
@[simp] theorem State.notify_notices (b : NoticeBody) :
    (s.notify b).notices = s.notices.append s.settings.notice ⟨s.time.ms, b⟩ := rfl
@[simp] theorem State.notify_req (b : NoticeBody) : (s.notify b).req = s.req := rfl
@[simp] theorem State.notify_settings (b : NoticeBody) : (s.notify b).settings = s.settings := rfl

/-! ### placeAnswer -/

@[simp] theorem State.placeAnswer_pending (tag : BitVec 4) (a : MediumAnswer) :
    (s.placeAnswer tag a).pending = s.pending := rfl
@[simp] theorem State.placeAnswer_pins (tag : BitVec 4) (a : MediumAnswer) :
    (s.placeAnswer tag a).pins = s.pins := rfl
@[simp] theorem State.placeAnswer_resetRecord (tag : BitVec 4) (a : MediumAnswer) :
    (s.placeAnswer tag a).resetRecord = s.resetRecord := rfl
@[simp] theorem State.placeAnswer_time (tag : BitVec 4) (a : MediumAnswer) :
    (s.placeAnswer tag a).time = s.time := rfl
@[simp] theorem State.placeAnswer_arbiter (tag : BitVec 4) (a : MediumAnswer) :
    (s.placeAnswer tag a).arbiter = s.arbiter := rfl
@[simp] theorem State.placeAnswer_records (tag : BitVec 4) (a : MediumAnswer) :
    (s.placeAnswer tag a).records = s.records := rfl
@[simp] theorem State.placeAnswer_lists (tag : BitVec 4) (a : MediumAnswer) :
    (s.placeAnswer tag a).lists = s.lists := rfl
@[simp] theorem State.placeAnswer_skip (tag : BitVec 4) (a : MediumAnswer) :
    (s.placeAnswer tag a).skip = s.skip := rfl
@[simp] theorem State.placeAnswer_tickets (tag : BitVec 4) (a : MediumAnswer) :
    (s.placeAnswer tag a).tickets = s.tickets := rfl
@[simp] theorem State.placeAnswer_pool (tag : BitVec 4) (a : MediumAnswer) :
    (s.placeAnswer tag a).pool = s.pool := rfl
@[simp] theorem State.placeAnswer_timerAsked (tag : BitVec 4) (a : MediumAnswer) :
    (s.placeAnswer tag a).timerAsked = s.timerAsked := rfl
@[simp] theorem State.placeAnswer_gov (tag : BitVec 4) (a : MediumAnswer) :
    (s.placeAnswer tag a).gov = s.gov := rfl
@[simp] theorem State.placeAnswer_sweeper (tag : BitVec 4) (a : MediumAnswer) :
    (s.placeAnswer tag a).sweeper = s.sweeper := rfl
@[simp] theorem State.placeAnswer_strangers (tag : BitVec 4) (a : MediumAnswer) :
    (s.placeAnswer tag a).strangers = s.strangers := rfl
@[simp] theorem State.placeAnswer_medium (tag : BitVec 4) (a : MediumAnswer) :
    (s.placeAnswer tag a).medium = { s.medium with answers := s.medium.answers ++ [⟨tag, s.medium.overrun, a⟩], overrun := false, work := none } := rfl
@[simp] theorem State.placeAnswer_notices (tag : BitVec 4) (a : MediumAnswer) :
    (s.placeAnswer tag a).notices = s.notices := rfl
@[simp] theorem State.placeAnswer_req (tag : BitVec 4) (a : MediumAnswer) :
    (s.placeAnswer tag a).req = s.req := rfl
@[simp] theorem State.placeAnswer_settings (tag : BitVec 4) (a : MediumAnswer) :
    (s.placeAnswer tag a).settings = s.settings := rfl

/-! ### hostAnswer -/

@[simp] theorem State.hostAnswer_pending (a : HostAnswer) :
    (s.hostAnswer a).pending = s.pending := rfl
@[simp] theorem State.hostAnswer_pins (a : HostAnswer) : (s.hostAnswer a).pins = s.pins := rfl
@[simp] theorem State.hostAnswer_resetRecord (a : HostAnswer) :
    (s.hostAnswer a).resetRecord = s.resetRecord := rfl
@[simp] theorem State.hostAnswer_time (a : HostAnswer) : (s.hostAnswer a).time = s.time := rfl
@[simp] theorem State.hostAnswer_arbiter (a : HostAnswer) :
    (s.hostAnswer a).arbiter = s.arbiter := rfl
@[simp] theorem State.hostAnswer_records (a : HostAnswer) :
    (s.hostAnswer a).records = s.records := rfl
@[simp] theorem State.hostAnswer_lists (a : HostAnswer) : (s.hostAnswer a).lists = s.lists := rfl
@[simp] theorem State.hostAnswer_skip (a : HostAnswer) : (s.hostAnswer a).skip = s.skip := rfl
@[simp] theorem State.hostAnswer_tickets (a : HostAnswer) :
    (s.hostAnswer a).tickets = s.tickets := rfl
@[simp] theorem State.hostAnswer_pool (a : HostAnswer) : (s.hostAnswer a).pool = s.pool := rfl
@[simp] theorem State.hostAnswer_timerAsked (a : HostAnswer) :
    (s.hostAnswer a).timerAsked = s.timerAsked := rfl
@[simp] theorem State.hostAnswer_gov (a : HostAnswer) : (s.hostAnswer a).gov = s.gov := rfl
@[simp] theorem State.hostAnswer_sweeper (a : HostAnswer) :
    (s.hostAnswer a).sweeper = s.sweeper := rfl
@[simp] theorem State.hostAnswer_strangers (a : HostAnswer) :
    (s.hostAnswer a).strangers = s.strangers := rfl
@[simp] theorem State.hostAnswer_medium (a : HostAnswer) : (s.hostAnswer a).medium = s.medium := rfl
@[simp] theorem State.hostAnswer_notices (a : HostAnswer) :
    (s.hostAnswer a).notices = s.notices := rfl
@[simp] theorem State.hostAnswer_req (a : HostAnswer) :
    (s.hostAnswer a).req = { s.req with port := .answerReady a } := rfl
@[simp] theorem State.hostAnswer_settings (a : HostAnswer) :
    (s.hostAnswer a).settings = s.settings := rfl

/-! ### writeWord -/

@[simp] theorem State.writeWord_pending (w : Word) : (s.writeWord w).pending = s.pending := rfl
@[simp] theorem State.writeWord_pins (w : Word) : (s.writeWord w).pins = s.pins := rfl
@[simp] theorem State.writeWord_resetRecord (w : Word) :
    (s.writeWord w).resetRecord = s.resetRecord := rfl
@[simp] theorem State.writeWord_time (w : Word) : (s.writeWord w).time = s.time := rfl
@[simp] theorem State.writeWord_arbiter (w : Word) : (s.writeWord w).arbiter = s.arbiter := rfl
@[simp] theorem State.writeWord_records (w : Word) : (s.writeWord w).records = s.records := rfl
@[simp] theorem State.writeWord_lists (w : Word) : (s.writeWord w).lists = s.lists := rfl
@[simp] theorem State.writeWord_skip (w : Word) : (s.writeWord w).skip = s.skip := rfl
@[simp] theorem State.writeWord_tickets (w : Word) : (s.writeWord w).tickets = s.tickets := rfl
@[simp] theorem State.writeWord_pool (w : Word) : (s.writeWord w).pool = s.pool := rfl
@[simp] theorem State.writeWord_timerAsked (w : Word) :
    (s.writeWord w).timerAsked = s.timerAsked := rfl
@[simp] theorem State.writeWord_gov (w : Word) : (s.writeWord w).gov = s.gov := rfl
@[simp] theorem State.writeWord_sweeper (w : Word) : (s.writeWord w).sweeper = s.sweeper := rfl
@[simp] theorem State.writeWord_strangers (w : Word) :
    (s.writeWord w).strangers = s.strangers := rfl
@[simp] theorem State.writeWord_medium (w : Word) :
    (s.writeWord w).medium = s.medium.writeWord w := rfl
@[simp] theorem State.writeWord_notices (w : Word) : (s.writeWord w).notices = s.notices := rfl
@[simp] theorem State.writeWord_req (w : Word) : (s.writeWord w).req = s.req := rfl
@[simp] theorem State.writeWord_settings (w : Word) : (s.writeWord w).settings = s.settings := rfl

/-! ### putTier -/

@[simp] theorem State.putTier_pending (k : Nat) (e : Option TierEntry) :
    (s.putTier k e).pending = s.pending := rfl
@[simp] theorem State.putTier_pins (k : Nat) (e : Option TierEntry) :
    (s.putTier k e).pins = s.pins := rfl
@[simp] theorem State.putTier_resetRecord (k : Nat) (e : Option TierEntry) :
    (s.putTier k e).resetRecord = s.resetRecord := rfl
@[simp] theorem State.putTier_time (k : Nat) (e : Option TierEntry) :
    (s.putTier k e).time = s.time := rfl
@[simp] theorem State.putTier_arbiter (k : Nat) (e : Option TierEntry) :
    (s.putTier k e).arbiter = s.arbiter := rfl
@[simp] theorem State.putTier_records (k : Nat) (e : Option TierEntry) :
    (s.putTier k e).records = s.records := rfl
@[simp] theorem State.putTier_lists (k : Nat) (e : Option TierEntry) :
    (s.putTier k e).lists = s.lists := rfl
@[simp] theorem State.putTier_skip (k : Nat) (e : Option TierEntry) :
    (s.putTier k e).skip = s.skip := rfl
@[simp] theorem State.putTier_tickets (k : Nat) (e : Option TierEntry) :
    (s.putTier k e).tickets = s.tickets := rfl
@[simp] theorem State.putTier_pool (k : Nat) (e : Option TierEntry) :
    (s.putTier k e).pool = s.pool := rfl
@[simp] theorem State.putTier_timerAsked (k : Nat) (e : Option TierEntry) :
    (s.putTier k e).timerAsked = s.timerAsked := rfl
@[simp] theorem State.putTier_gov (k : Nat) (e : Option TierEntry) :
    (s.putTier k e).gov = s.gov := rfl
@[simp] theorem State.putTier_sweeper (k : Nat) (e : Option TierEntry) :
    (s.putTier k e).sweeper = s.sweeper := rfl
@[simp] theorem State.putTier_strangers (k : Nat) (e : Option TierEntry) :
    (s.putTier k e).strangers = s.strangers := rfl
@[simp] theorem State.putTier_medium (k : Nat) (e : Option TierEntry) :
    (s.putTier k e).medium = s.medium := rfl
@[simp] theorem State.putTier_notices (k : Nat) (e : Option TierEntry) :
    (s.putTier k e).notices = s.notices := rfl
@[simp] theorem State.putTier_req (k : Nat) (e : Option TierEntry) :
    (s.putTier k e).req = s.req := rfl
@[simp] theorem State.putTier_settings (k : Nat) (e : Option TierEntry) :
    (s.putTier k e).settings = { s.settings with tiers := s.settings.tiers.setIfInBounds k e } := rfl

/-! ### passTime -/

@[simp] theorem State.passTime_pending (dt : Nat) : (s.passTime dt).pending = s.pending := rfl
@[simp] theorem State.passTime_pins (dt : Nat) : (s.passTime dt).pins = s.pins := rfl
@[simp] theorem State.passTime_resetRecord (dt : Nat) :
    (s.passTime dt).resetRecord = s.resetRecord := rfl
@[simp] theorem State.passTime_time (dt : Nat) :
    (s.passTime dt).time = { us := s.time.us + BitVec.ofNat 32 dt, ms := s.time.ms + BitVec.ofNat 32 ((s.time.frac + dt) / 1000), frac := (s.time.frac + dt) % 1000 } := rfl
@[simp] theorem State.passTime_arbiter (dt : Nat) : (s.passTime dt).arbiter = s.arbiter := rfl
@[simp] theorem State.passTime_records (dt : Nat) : (s.passTime dt).records = s.records := rfl
@[simp] theorem State.passTime_lists (dt : Nat) : (s.passTime dt).lists = s.lists := rfl
@[simp] theorem State.passTime_skip (dt : Nat) : (s.passTime dt).skip = s.skip := rfl
@[simp] theorem State.passTime_tickets (dt : Nat) :
    (s.passTime dt).tickets = s.tickets.map (Ticket.after · dt) := rfl
@[simp] theorem State.passTime_pool (dt : Nat) : (s.passTime dt).pool = s.pool := rfl
@[simp] theorem State.passTime_timerAsked (dt : Nat) :
    (s.passTime dt).timerAsked = s.timerAsked := rfl
@[simp] theorem State.passTime_gov (dt : Nat) :
    (s.passTime dt).gov = { s.gov with windowLeft := s.gov.windowLeft - dt, hold := s.gov.hold - dt } := rfl
@[simp] theorem State.passTime_sweeper (dt : Nat) :
    (s.passTime dt).sweeper = { s.sweeper with periodLeft := s.sweeper.periodLeft - dt } := rfl
@[simp] theorem State.passTime_strangers (dt : Nat) : (s.passTime dt).strangers = s.strangers := rfl
@[simp] theorem State.passTime_medium (dt : Nat) : (s.passTime dt).medium = s.medium := rfl
@[simp] theorem State.passTime_notices (dt : Nat) :
    (s.passTime dt).notices = { s.notices with timer := s.notices.timer.map (· - dt) } := rfl
@[simp] theorem State.passTime_req (dt : Nat) : (s.passTime dt).req = s.req := rfl
@[simp] theorem State.passTime_settings (dt : Nat) : (s.passTime dt).settings = s.settings := rfl

end Sys2Proof.Machine
end

