-- ==== Sys2Proof/Laws/Frames.lean ====
section
/-! SUPPORT. The frames of the shared operations that choose by the state: for each, one simp lemma for
every field of State that it leaves as it is. -/

namespace Sys2Proof.Machine

variable (s : State)

/-! ### unlist: all but lists, skip -/

@[simp] theorem State.unlist_pending (c : Cls) (h : Nat) : (s.unlist c h).pending = s.pending := by
  unfold State.unlist; split <;> rfl
@[simp] theorem State.unlist_pins (c : Cls) (h : Nat) : (s.unlist c h).pins = s.pins := by
  unfold State.unlist; split <;> rfl
@[simp] theorem State.unlist_resetRecord (c : Cls) (h : Nat) :
    (s.unlist c h).resetRecord = s.resetRecord := by
  unfold State.unlist; split <;> rfl
@[simp] theorem State.unlist_time (c : Cls) (h : Nat) : (s.unlist c h).time = s.time := by
  unfold State.unlist; split <;> rfl
@[simp] theorem State.unlist_arbiter (c : Cls) (h : Nat) : (s.unlist c h).arbiter = s.arbiter := by
  unfold State.unlist; split <;> rfl
@[simp] theorem State.unlist_records (c : Cls) (h : Nat) : (s.unlist c h).records = s.records := by
  unfold State.unlist; split <;> rfl
@[simp] theorem State.unlist_tickets (c : Cls) (h : Nat) : (s.unlist c h).tickets = s.tickets := by
  unfold State.unlist; split <;> rfl
@[simp] theorem State.unlist_pool (c : Cls) (h : Nat) : (s.unlist c h).pool = s.pool := by
  unfold State.unlist; split <;> rfl
@[simp] theorem State.unlist_timerAsked (c : Cls) (h : Nat) :
    (s.unlist c h).timerAsked = s.timerAsked := by
  unfold State.unlist; split <;> rfl
@[simp] theorem State.unlist_gov (c : Cls) (h : Nat) : (s.unlist c h).gov = s.gov := by
  unfold State.unlist; split <;> rfl
@[simp] theorem State.unlist_sweeper (c : Cls) (h : Nat) : (s.unlist c h).sweeper = s.sweeper := by
  unfold State.unlist; split <;> rfl
@[simp] theorem State.unlist_strangers (c : Cls) (h : Nat) :
    (s.unlist c h).strangers = s.strangers := by
  unfold State.unlist; split <;> rfl
@[simp] theorem State.unlist_medium (c : Cls) (h : Nat) : (s.unlist c h).medium = s.medium := by
  unfold State.unlist; split <;> rfl
@[simp] theorem State.unlist_notices (c : Cls) (h : Nat) : (s.unlist c h).notices = s.notices := by
  unfold State.unlist; split <;> rfl
@[simp] theorem State.unlist_req (c : Cls) (h : Nat) : (s.unlist c h).req = s.req := by
  unfold State.unlist; split <;> rfl
@[simp] theorem State.unlist_settings (c : Cls) (h : Nat) :
    (s.unlist c h).settings = s.settings := by
  unfold State.unlist; split <;> rfl

/-! ### judge: all but lists, skip -/

@[simp] theorem State.judge_pending (h : Nat) : (s.judge h).pending = s.pending := by
  unfold State.judge; split <;> (try split) <;> (try split) <;> simp
@[simp] theorem State.judge_pins (h : Nat) : (s.judge h).pins = s.pins := by
  unfold State.judge; split <;> (try split) <;> (try split) <;> simp
@[simp] theorem State.judge_resetRecord (h : Nat) : (s.judge h).resetRecord = s.resetRecord := by
  unfold State.judge; split <;> (try split) <;> (try split) <;> simp
@[simp] theorem State.judge_time (h : Nat) : (s.judge h).time = s.time := by
  unfold State.judge; split <;> (try split) <;> (try split) <;> simp
@[simp] theorem State.judge_arbiter (h : Nat) : (s.judge h).arbiter = s.arbiter := by
  unfold State.judge; split <;> (try split) <;> (try split) <;> simp
@[simp] theorem State.judge_records (h : Nat) : (s.judge h).records = s.records := by
  unfold State.judge; split <;> (try split) <;> (try split) <;> simp
@[simp] theorem State.judge_tickets (h : Nat) : (s.judge h).tickets = s.tickets := by
  unfold State.judge; split <;> (try split) <;> (try split) <;> simp
@[simp] theorem State.judge_pool (h : Nat) : (s.judge h).pool = s.pool := by
  unfold State.judge; split <;> (try split) <;> (try split) <;> simp
@[simp] theorem State.judge_timerAsked (h : Nat) : (s.judge h).timerAsked = s.timerAsked := by
  unfold State.judge; split <;> (try split) <;> (try split) <;> simp
@[simp] theorem State.judge_gov (h : Nat) : (s.judge h).gov = s.gov := by
  unfold State.judge; split <;> (try split) <;> (try split) <;> simp
@[simp] theorem State.judge_sweeper (h : Nat) : (s.judge h).sweeper = s.sweeper := by
  unfold State.judge; split <;> (try split) <;> (try split) <;> simp
@[simp] theorem State.judge_strangers (h : Nat) : (s.judge h).strangers = s.strangers := by
  unfold State.judge; split <;> (try split) <;> (try split) <;> simp
@[simp] theorem State.judge_medium (h : Nat) : (s.judge h).medium = s.medium := by
  unfold State.judge; split <;> (try split) <;> (try split) <;> simp
@[simp] theorem State.judge_notices (h : Nat) : (s.judge h).notices = s.notices := by
  unfold State.judge; split <;> (try split) <;> (try split) <;> simp
@[simp] theorem State.judge_req (h : Nat) : (s.judge h).req = s.req := by
  unfold State.judge; split <;> (try split) <;> (try split) <;> simp
@[simp] theorem State.judge_settings (h : Nat) : (s.judge h).settings = s.settings := by
  unfold State.judge; split <;> (try split) <;> (try split) <;> simp

/-! ### updateRecord: all but records -/

@[simp] theorem State.updateRecord_pending (h : Nat) (f : Record → Record) :
    (s.updateRecord h f).pending = s.pending := by
  unfold State.updateRecord; split <;> rfl
@[simp] theorem State.updateRecord_pins (h : Nat) (f : Record → Record) :
    (s.updateRecord h f).pins = s.pins := by
  unfold State.updateRecord; split <;> rfl
@[simp] theorem State.updateRecord_resetRecord (h : Nat) (f : Record → Record) :
    (s.updateRecord h f).resetRecord = s.resetRecord := by
  unfold State.updateRecord; split <;> rfl
@[simp] theorem State.updateRecord_time (h : Nat) (f : Record → Record) :
    (s.updateRecord h f).time = s.time := by
  unfold State.updateRecord; split <;> rfl
@[simp] theorem State.updateRecord_arbiter (h : Nat) (f : Record → Record) :
    (s.updateRecord h f).arbiter = s.arbiter := by
  unfold State.updateRecord; split <;> rfl
@[simp] theorem State.updateRecord_lists (h : Nat) (f : Record → Record) :
    (s.updateRecord h f).lists = s.lists := by
  unfold State.updateRecord; split <;> rfl
@[simp] theorem State.updateRecord_skip (h : Nat) (f : Record → Record) :
    (s.updateRecord h f).skip = s.skip := by
  unfold State.updateRecord; split <;> rfl
@[simp] theorem State.updateRecord_tickets (h : Nat) (f : Record → Record) :
    (s.updateRecord h f).tickets = s.tickets := by
  unfold State.updateRecord; split <;> rfl
@[simp] theorem State.updateRecord_pool (h : Nat) (f : Record → Record) :
    (s.updateRecord h f).pool = s.pool := by
  unfold State.updateRecord; split <;> rfl
@[simp] theorem State.updateRecord_timerAsked (h : Nat) (f : Record → Record) :
    (s.updateRecord h f).timerAsked = s.timerAsked := by
  unfold State.updateRecord; split <;> rfl
@[simp] theorem State.updateRecord_gov (h : Nat) (f : Record → Record) :
    (s.updateRecord h f).gov = s.gov := by
  unfold State.updateRecord; split <;> rfl
@[simp] theorem State.updateRecord_sweeper (h : Nat) (f : Record → Record) :
    (s.updateRecord h f).sweeper = s.sweeper := by
  unfold State.updateRecord; split <;> rfl
@[simp] theorem State.updateRecord_strangers (h : Nat) (f : Record → Record) :
    (s.updateRecord h f).strangers = s.strangers := by
  unfold State.updateRecord; split <;> rfl
@[simp] theorem State.updateRecord_medium (h : Nat) (f : Record → Record) :
    (s.updateRecord h f).medium = s.medium := by
  unfold State.updateRecord; split <;> rfl
@[simp] theorem State.updateRecord_notices (h : Nat) (f : Record → Record) :
    (s.updateRecord h f).notices = s.notices := by
  unfold State.updateRecord; split <;> rfl
@[simp] theorem State.updateRecord_req (h : Nat) (f : Record → Record) :
    (s.updateRecord h f).req = s.req := by
  unfold State.updateRecord; split <;> rfl
@[simp] theorem State.updateRecord_settings (h : Nat) (f : Record → Record) :
    (s.updateRecord h f).settings = s.settings := by
  unfold State.updateRecord; split <;> rfl

/-! ### charge: all but records, gov -/

@[simp] theorem State.charge_pending (h amount : Nat) :
    (s.charge h amount).pending = s.pending := by
  unfold State.charge; split <;> rfl
@[simp] theorem State.charge_pins (h amount : Nat) : (s.charge h amount).pins = s.pins := by
  unfold State.charge; split <;> rfl
@[simp] theorem State.charge_resetRecord (h amount : Nat) :
    (s.charge h amount).resetRecord = s.resetRecord := by
  unfold State.charge; split <;> rfl
@[simp] theorem State.charge_time (h amount : Nat) : (s.charge h amount).time = s.time := by
  unfold State.charge; split <;> rfl
@[simp] theorem State.charge_arbiter (h amount : Nat) :
    (s.charge h amount).arbiter = s.arbiter := by
  unfold State.charge; split <;> rfl
@[simp] theorem State.charge_lists (h amount : Nat) : (s.charge h amount).lists = s.lists := by
  unfold State.charge; split <;> rfl
@[simp] theorem State.charge_skip (h amount : Nat) : (s.charge h amount).skip = s.skip := by
  unfold State.charge; split <;> rfl
@[simp] theorem State.charge_tickets (h amount : Nat) :
    (s.charge h amount).tickets = s.tickets := by
  unfold State.charge; split <;> rfl
@[simp] theorem State.charge_pool (h amount : Nat) : (s.charge h amount).pool = s.pool := by
  unfold State.charge; split <;> rfl
@[simp] theorem State.charge_timerAsked (h amount : Nat) :
    (s.charge h amount).timerAsked = s.timerAsked := by
  unfold State.charge; split <;> rfl
@[simp] theorem State.charge_sweeper (h amount : Nat) :
    (s.charge h amount).sweeper = s.sweeper := by
  unfold State.charge; split <;> rfl
@[simp] theorem State.charge_strangers (h amount : Nat) :
    (s.charge h amount).strangers = s.strangers := by
  unfold State.charge; split <;> rfl
@[simp] theorem State.charge_medium (h amount : Nat) : (s.charge h amount).medium = s.medium := by
  unfold State.charge; split <;> rfl
@[simp] theorem State.charge_notices (h amount : Nat) :
    (s.charge h amount).notices = s.notices := by
  unfold State.charge; split <;> rfl
@[simp] theorem State.charge_req (h amount : Nat) : (s.charge h amount).req = s.req := by
  unfold State.charge; split <;> rfl
@[simp] theorem State.charge_settings (h amount : Nat) :
    (s.charge h amount).settings = s.settings := by
  unfold State.charge; split <;> rfl

/-! ### retire: all but records, lists, skip -/

@[simp] theorem State.retire_pending (h : Nat) (cause : DrainCause) :
    (s.retire h cause).pending = s.pending := by
  unfold State.retire; split <;> simp
@[simp] theorem State.retire_pins (h : Nat) (cause : DrainCause) :
    (s.retire h cause).pins = s.pins := by
  unfold State.retire; split <;> simp
@[simp] theorem State.retire_resetRecord (h : Nat) (cause : DrainCause) :
    (s.retire h cause).resetRecord = s.resetRecord := by
  unfold State.retire; split <;> simp
@[simp] theorem State.retire_time (h : Nat) (cause : DrainCause) :
    (s.retire h cause).time = s.time := by
  unfold State.retire; split <;> simp
@[simp] theorem State.retire_arbiter (h : Nat) (cause : DrainCause) :
    (s.retire h cause).arbiter = s.arbiter := by
  unfold State.retire; split <;> simp
@[simp] theorem State.retire_tickets (h : Nat) (cause : DrainCause) :
    (s.retire h cause).tickets = s.tickets := by
  unfold State.retire; split <;> simp
@[simp] theorem State.retire_pool (h : Nat) (cause : DrainCause) :
    (s.retire h cause).pool = s.pool := by
  unfold State.retire; split <;> simp
@[simp] theorem State.retire_timerAsked (h : Nat) (cause : DrainCause) :
    (s.retire h cause).timerAsked = s.timerAsked := by
  unfold State.retire; split <;> simp
@[simp] theorem State.retire_gov (h : Nat) (cause : DrainCause) :
    (s.retire h cause).gov = s.gov := by
  unfold State.retire; split <;> simp
@[simp] theorem State.retire_sweeper (h : Nat) (cause : DrainCause) :
    (s.retire h cause).sweeper = s.sweeper := by
  unfold State.retire; split <;> simp
@[simp] theorem State.retire_strangers (h : Nat) (cause : DrainCause) :
    (s.retire h cause).strangers = s.strangers := by
  unfold State.retire; split <;> simp
@[simp] theorem State.retire_medium (h : Nat) (cause : DrainCause) :
    (s.retire h cause).medium = s.medium := by
  unfold State.retire; split <;> simp
@[simp] theorem State.retire_notices (h : Nat) (cause : DrainCause) :
    (s.retire h cause).notices = s.notices := by
  unfold State.retire; split <;> simp
@[simp] theorem State.retire_req (h : Nat) (cause : DrainCause) :
    (s.retire h cause).req = s.req := by
  unfold State.retire; split <;> simp
@[simp] theorem State.retire_settings (h : Nat) (cause : DrainCause) :
    (s.retire h cause).settings = s.settings := by
  unfold State.retire; split <;> simp

/-! ### endDrain: all but records, notices -/

@[simp] theorem State.endDrain_pending (h : Nat) : (s.endDrain h).pending = s.pending := by
  unfold State.endDrain; split <;> (try split) <;> (try split) <;> simp
@[simp] theorem State.endDrain_pins (h : Nat) : (s.endDrain h).pins = s.pins := by
  unfold State.endDrain; split <;> (try split) <;> (try split) <;> simp
@[simp] theorem State.endDrain_resetRecord (h : Nat) :
    (s.endDrain h).resetRecord = s.resetRecord := by
  unfold State.endDrain; split <;> (try split) <;> (try split) <;> simp
@[simp] theorem State.endDrain_time (h : Nat) : (s.endDrain h).time = s.time := by
  unfold State.endDrain; split <;> (try split) <;> (try split) <;> simp
@[simp] theorem State.endDrain_arbiter (h : Nat) : (s.endDrain h).arbiter = s.arbiter := by
  unfold State.endDrain; split <;> (try split) <;> (try split) <;> simp
@[simp] theorem State.endDrain_lists (h : Nat) : (s.endDrain h).lists = s.lists := by
  unfold State.endDrain; split <;> (try split) <;> (try split) <;> simp
@[simp] theorem State.endDrain_skip (h : Nat) : (s.endDrain h).skip = s.skip := by
  unfold State.endDrain; split <;> (try split) <;> (try split) <;> simp
@[simp] theorem State.endDrain_tickets (h : Nat) : (s.endDrain h).tickets = s.tickets := by
  unfold State.endDrain; split <;> (try split) <;> (try split) <;> simp
@[simp] theorem State.endDrain_pool (h : Nat) : (s.endDrain h).pool = s.pool := by
  unfold State.endDrain; split <;> (try split) <;> (try split) <;> simp
@[simp] theorem State.endDrain_timerAsked (h : Nat) : (s.endDrain h).timerAsked = s.timerAsked := by
  unfold State.endDrain; split <;> (try split) <;> (try split) <;> simp
@[simp] theorem State.endDrain_gov (h : Nat) : (s.endDrain h).gov = s.gov := by
  unfold State.endDrain; split <;> (try split) <;> (try split) <;> simp
@[simp] theorem State.endDrain_sweeper (h : Nat) : (s.endDrain h).sweeper = s.sweeper := by
  unfold State.endDrain; split <;> (try split) <;> (try split) <;> simp
@[simp] theorem State.endDrain_strangers (h : Nat) : (s.endDrain h).strangers = s.strangers := by
  unfold State.endDrain; split <;> (try split) <;> (try split) <;> simp
@[simp] theorem State.endDrain_medium (h : Nat) : (s.endDrain h).medium = s.medium := by
  unfold State.endDrain; split <;> (try split) <;> (try split) <;> simp
@[simp] theorem State.endDrain_req (h : Nat) : (s.endDrain h).req = s.req := by
  unfold State.endDrain; split <;> (try split) <;> (try split) <;> simp
@[simp] theorem State.endDrain_settings (h : Nat) : (s.endDrain h).settings = s.settings := by
  unfold State.endDrain; split <;> (try split) <;> (try split) <;> simp

/-! ### ask: all but arbiter -/

@[simp] theorem State.ask_pending (c : Client) : (s.ask c).pending = s.pending := by
  unfold State.ask; split <;> rfl
@[simp] theorem State.ask_pins (c : Client) : (s.ask c).pins = s.pins := by
  unfold State.ask; split <;> rfl
@[simp] theorem State.ask_resetRecord (c : Client) : (s.ask c).resetRecord = s.resetRecord := by
  unfold State.ask; split <;> rfl
@[simp] theorem State.ask_time (c : Client) : (s.ask c).time = s.time := by
  unfold State.ask; split <;> rfl
@[simp] theorem State.ask_records (c : Client) : (s.ask c).records = s.records := by
  unfold State.ask; split <;> rfl
@[simp] theorem State.ask_lists (c : Client) : (s.ask c).lists = s.lists := by
  unfold State.ask; split <;> rfl
@[simp] theorem State.ask_skip (c : Client) : (s.ask c).skip = s.skip := by
  unfold State.ask; split <;> rfl
@[simp] theorem State.ask_tickets (c : Client) : (s.ask c).tickets = s.tickets := by
  unfold State.ask; split <;> rfl
@[simp] theorem State.ask_pool (c : Client) : (s.ask c).pool = s.pool := by
  unfold State.ask; split <;> rfl
@[simp] theorem State.ask_timerAsked (c : Client) : (s.ask c).timerAsked = s.timerAsked := by
  unfold State.ask; split <;> rfl
@[simp] theorem State.ask_gov (c : Client) : (s.ask c).gov = s.gov := by
  unfold State.ask; split <;> rfl
@[simp] theorem State.ask_sweeper (c : Client) : (s.ask c).sweeper = s.sweeper := by
  unfold State.ask; split <;> rfl
@[simp] theorem State.ask_strangers (c : Client) : (s.ask c).strangers = s.strangers := by
  unfold State.ask; split <;> rfl
@[simp] theorem State.ask_medium (c : Client) : (s.ask c).medium = s.medium := by
  unfold State.ask; split <;> rfl
@[simp] theorem State.ask_notices (c : Client) : (s.ask c).notices = s.notices := by
  unfold State.ask; split <;> rfl
@[simp] theorem State.ask_req (c : Client) : (s.ask c).req = s.req := by
  unfold State.ask; split <;> rfl
@[simp] theorem State.ask_settings (c : Client) : (s.ask c).settings = s.settings := by
  unfold State.ask; split <;> rfl

/-! ### release: all but arbiter -/

@[simp] theorem State.release_pending : (s.release).pending = s.pending := by
  unfold State.release; split <;> rfl
@[simp] theorem State.release_pins : (s.release).pins = s.pins := by
  unfold State.release; split <;> rfl
@[simp] theorem State.release_resetRecord : (s.release).resetRecord = s.resetRecord := by
  unfold State.release; split <;> rfl
@[simp] theorem State.release_time : (s.release).time = s.time := by
  unfold State.release; split <;> rfl
@[simp] theorem State.release_records : (s.release).records = s.records := by
  unfold State.release; split <;> rfl
@[simp] theorem State.release_lists : (s.release).lists = s.lists := by
  unfold State.release; split <;> rfl
@[simp] theorem State.release_skip : (s.release).skip = s.skip := by
  unfold State.release; split <;> rfl
@[simp] theorem State.release_tickets : (s.release).tickets = s.tickets := by
  unfold State.release; split <;> rfl
@[simp] theorem State.release_pool : (s.release).pool = s.pool := by
  unfold State.release; split <;> rfl
@[simp] theorem State.release_timerAsked : (s.release).timerAsked = s.timerAsked := by
  unfold State.release; split <;> rfl
@[simp] theorem State.release_gov : (s.release).gov = s.gov := by
  unfold State.release; split <;> rfl
@[simp] theorem State.release_sweeper : (s.release).sweeper = s.sweeper := by
  unfold State.release; split <;> rfl
@[simp] theorem State.release_strangers : (s.release).strangers = s.strangers := by
  unfold State.release; split <;> rfl
@[simp] theorem State.release_medium : (s.release).medium = s.medium := by
  unfold State.release; split <;> rfl
@[simp] theorem State.release_notices : (s.release).notices = s.notices := by
  unfold State.release; split <;> rfl
@[simp] theorem State.release_req : (s.release).req = s.req := by
  unfold State.release; split <;> rfl
@[simp] theorem State.release_settings : (s.release).settings = s.settings := by
  unfold State.release; split <;> rfl

/-! ### endMedium: all but medium, arbiter -/

@[simp] theorem State.endMedium_pending (tag : BitVec 4) (a : MediumAnswer) :
    (s.endMedium tag a).pending = s.pending := by
  simp [State.endMedium]
@[simp] theorem State.endMedium_pins (tag : BitVec 4) (a : MediumAnswer) :
    (s.endMedium tag a).pins = s.pins := by
  simp [State.endMedium]
@[simp] theorem State.endMedium_resetRecord (tag : BitVec 4) (a : MediumAnswer) :
    (s.endMedium tag a).resetRecord = s.resetRecord := by
  simp [State.endMedium]
@[simp] theorem State.endMedium_time (tag : BitVec 4) (a : MediumAnswer) :
    (s.endMedium tag a).time = s.time := by
  simp [State.endMedium]
@[simp] theorem State.endMedium_records (tag : BitVec 4) (a : MediumAnswer) :
    (s.endMedium tag a).records = s.records := by
  simp [State.endMedium]
@[simp] theorem State.endMedium_lists (tag : BitVec 4) (a : MediumAnswer) :
    (s.endMedium tag a).lists = s.lists := by
  simp [State.endMedium]
@[simp] theorem State.endMedium_skip (tag : BitVec 4) (a : MediumAnswer) :
    (s.endMedium tag a).skip = s.skip := by
  simp [State.endMedium]
@[simp] theorem State.endMedium_tickets (tag : BitVec 4) (a : MediumAnswer) :
    (s.endMedium tag a).tickets = s.tickets := by
  simp [State.endMedium]
@[simp] theorem State.endMedium_pool (tag : BitVec 4) (a : MediumAnswer) :
    (s.endMedium tag a).pool = s.pool := by
  simp [State.endMedium]
@[simp] theorem State.endMedium_timerAsked (tag : BitVec 4) (a : MediumAnswer) :
    (s.endMedium tag a).timerAsked = s.timerAsked := by
  simp [State.endMedium]
@[simp] theorem State.endMedium_gov (tag : BitVec 4) (a : MediumAnswer) :
    (s.endMedium tag a).gov = s.gov := by
  simp [State.endMedium]
@[simp] theorem State.endMedium_sweeper (tag : BitVec 4) (a : MediumAnswer) :
    (s.endMedium tag a).sweeper = s.sweeper := by
  simp [State.endMedium]
@[simp] theorem State.endMedium_strangers (tag : BitVec 4) (a : MediumAnswer) :
    (s.endMedium tag a).strangers = s.strangers := by
  simp [State.endMedium]
@[simp] theorem State.endMedium_notices (tag : BitVec 4) (a : MediumAnswer) :
    (s.endMedium tag a).notices = s.notices := by
  simp [State.endMedium]
@[simp] theorem State.endMedium_req (tag : BitVec 4) (a : MediumAnswer) :
    (s.endMedium tag a).req = s.req := by
  simp [State.endMedium]
@[simp] theorem State.endMedium_settings (tag : BitVec 4) (a : MediumAnswer) :
    (s.endMedium tag a).settings = s.settings := by
  simp [State.endMedium]

/-! ### endHost: all but req, arbiter -/

@[simp] theorem State.endHost_pending (a : HostAnswer) : (s.endHost a).pending = s.pending := by
  simp [State.endHost]
@[simp] theorem State.endHost_pins (a : HostAnswer) : (s.endHost a).pins = s.pins := by
  simp [State.endHost]
@[simp] theorem State.endHost_resetRecord (a : HostAnswer) :
    (s.endHost a).resetRecord = s.resetRecord := by
  simp [State.endHost]
@[simp] theorem State.endHost_time (a : HostAnswer) : (s.endHost a).time = s.time := by
  simp [State.endHost]
@[simp] theorem State.endHost_records (a : HostAnswer) : (s.endHost a).records = s.records := by
  simp [State.endHost]
@[simp] theorem State.endHost_lists (a : HostAnswer) : (s.endHost a).lists = s.lists := by
  simp [State.endHost]
@[simp] theorem State.endHost_skip (a : HostAnswer) : (s.endHost a).skip = s.skip := by
  simp [State.endHost]
@[simp] theorem State.endHost_tickets (a : HostAnswer) : (s.endHost a).tickets = s.tickets := by
  simp [State.endHost]
@[simp] theorem State.endHost_pool (a : HostAnswer) : (s.endHost a).pool = s.pool := by
  simp [State.endHost]
@[simp] theorem State.endHost_timerAsked (a : HostAnswer) :
    (s.endHost a).timerAsked = s.timerAsked := by
  simp [State.endHost]
@[simp] theorem State.endHost_gov (a : HostAnswer) : (s.endHost a).gov = s.gov := by
  simp [State.endHost]
@[simp] theorem State.endHost_sweeper (a : HostAnswer) : (s.endHost a).sweeper = s.sweeper := by
  simp [State.endHost]
@[simp] theorem State.endHost_strangers (a : HostAnswer) :
    (s.endHost a).strangers = s.strangers := by
  simp [State.endHost]
@[simp] theorem State.endHost_medium (a : HostAnswer) : (s.endHost a).medium = s.medium := by
  simp [State.endHost]
@[simp] theorem State.endHost_notices (a : HostAnswer) : (s.endHost a).notices = s.notices := by
  simp [State.endHost]
@[simp] theorem State.endHost_settings (a : HostAnswer) : (s.endHost a).settings = s.settings := by
  simp [State.endHost]

/-! ### setGovernorState: all but gov, notices -/

@[simp] theorem State.setGovernorState_pending (g : Governor) :
    (s.setGovernorState g).pending = s.pending := by
  unfold State.setGovernorState; split <;> rfl
@[simp] theorem State.setGovernorState_pins (g : Governor) :
    (s.setGovernorState g).pins = s.pins := by
  unfold State.setGovernorState; split <;> rfl
@[simp] theorem State.setGovernorState_resetRecord (g : Governor) :
    (s.setGovernorState g).resetRecord = s.resetRecord := by
  unfold State.setGovernorState; split <;> rfl
@[simp] theorem State.setGovernorState_time (g : Governor) :
    (s.setGovernorState g).time = s.time := by
  unfold State.setGovernorState; split <;> rfl
@[simp] theorem State.setGovernorState_arbiter (g : Governor) :
    (s.setGovernorState g).arbiter = s.arbiter := by
  unfold State.setGovernorState; split <;> rfl
@[simp] theorem State.setGovernorState_records (g : Governor) :
    (s.setGovernorState g).records = s.records := by
  unfold State.setGovernorState; split <;> rfl
@[simp] theorem State.setGovernorState_lists (g : Governor) :
    (s.setGovernorState g).lists = s.lists := by
  unfold State.setGovernorState; split <;> rfl
@[simp] theorem State.setGovernorState_skip (g : Governor) :
    (s.setGovernorState g).skip = s.skip := by
  unfold State.setGovernorState; split <;> rfl
@[simp] theorem State.setGovernorState_tickets (g : Governor) :
    (s.setGovernorState g).tickets = s.tickets := by
  unfold State.setGovernorState; split <;> rfl
@[simp] theorem State.setGovernorState_pool (g : Governor) :
    (s.setGovernorState g).pool = s.pool := by
  unfold State.setGovernorState; split <;> rfl
@[simp] theorem State.setGovernorState_timerAsked (g : Governor) :
    (s.setGovernorState g).timerAsked = s.timerAsked := by
  unfold State.setGovernorState; split <;> rfl
@[simp] theorem State.setGovernorState_sweeper (g : Governor) :
    (s.setGovernorState g).sweeper = s.sweeper := by
  unfold State.setGovernorState; split <;> rfl
@[simp] theorem State.setGovernorState_strangers (g : Governor) :
    (s.setGovernorState g).strangers = s.strangers := by
  unfold State.setGovernorState; split <;> rfl
@[simp] theorem State.setGovernorState_medium (g : Governor) :
    (s.setGovernorState g).medium = s.medium := by
  unfold State.setGovernorState; split <;> rfl
@[simp] theorem State.setGovernorState_req (g : Governor) : (s.setGovernorState g).req = s.req := by
  unfold State.setGovernorState; split <;> rfl
@[simp] theorem State.setGovernorState_settings (g : Governor) :
    (s.setGovernorState g).settings = s.settings := by
  unfold State.setGovernorState; split <;> rfl

/-! ### age: all but records, lists, skip, notices -/

@[simp] theorem State.age_pending (h : Nat) (r : Record) : (s.age h r).pending = s.pending := by
  simp only [State.age]; split <;> simp
@[simp] theorem State.age_pins (h : Nat) (r : Record) : (s.age h r).pins = s.pins := by
  simp only [State.age]; split <;> simp
@[simp] theorem State.age_resetRecord (h : Nat) (r : Record) :
    (s.age h r).resetRecord = s.resetRecord := by
  simp only [State.age]; split <;> simp
@[simp] theorem State.age_time (h : Nat) (r : Record) : (s.age h r).time = s.time := by
  simp only [State.age]; split <;> simp
@[simp] theorem State.age_arbiter (h : Nat) (r : Record) : (s.age h r).arbiter = s.arbiter := by
  simp only [State.age]; split <;> simp
@[simp] theorem State.age_tickets (h : Nat) (r : Record) : (s.age h r).tickets = s.tickets := by
  simp only [State.age]; split <;> simp
@[simp] theorem State.age_pool (h : Nat) (r : Record) : (s.age h r).pool = s.pool := by
  simp only [State.age]; split <;> simp
@[simp] theorem State.age_timerAsked (h : Nat) (r : Record) :
    (s.age h r).timerAsked = s.timerAsked := by
  simp only [State.age]; split <;> simp
@[simp] theorem State.age_gov (h : Nat) (r : Record) : (s.age h r).gov = s.gov := by
  simp only [State.age]; split <;> simp
@[simp] theorem State.age_sweeper (h : Nat) (r : Record) : (s.age h r).sweeper = s.sweeper := by
  simp only [State.age]; split <;> simp
@[simp] theorem State.age_strangers (h : Nat) (r : Record) :
    (s.age h r).strangers = s.strangers := by
  simp only [State.age]; split <;> simp
@[simp] theorem State.age_medium (h : Nat) (r : Record) : (s.age h r).medium = s.medium := by
  simp only [State.age]; split <;> simp
@[simp] theorem State.age_req (h : Nat) (r : Record) : (s.age h r).req = s.req := by
  simp only [State.age]; split <;> simp
@[simp] theorem State.age_settings (h : Nat) (r : Record) : (s.age h r).settings = s.settings := by
  simp only [State.age]; split <;> simp

/-! ### sweep: all but records, lists, skip, notices -/

@[simp] theorem State.sweep_pending (h : Nat) : (s.sweep h).pending = s.pending := by
  unfold State.sweep; split <;> (try split) <;> (try split) <;> simp
@[simp] theorem State.sweep_pins (h : Nat) : (s.sweep h).pins = s.pins := by
  unfold State.sweep; split <;> (try split) <;> (try split) <;> simp
@[simp] theorem State.sweep_resetRecord (h : Nat) : (s.sweep h).resetRecord = s.resetRecord := by
  unfold State.sweep; split <;> (try split) <;> (try split) <;> simp
@[simp] theorem State.sweep_time (h : Nat) : (s.sweep h).time = s.time := by
  unfold State.sweep; split <;> (try split) <;> (try split) <;> simp
@[simp] theorem State.sweep_arbiter (h : Nat) : (s.sweep h).arbiter = s.arbiter := by
  unfold State.sweep; split <;> (try split) <;> (try split) <;> simp
@[simp] theorem State.sweep_tickets (h : Nat) : (s.sweep h).tickets = s.tickets := by
  unfold State.sweep; split <;> (try split) <;> (try split) <;> simp
@[simp] theorem State.sweep_pool (h : Nat) : (s.sweep h).pool = s.pool := by
  unfold State.sweep; split <;> (try split) <;> (try split) <;> simp
@[simp] theorem State.sweep_timerAsked (h : Nat) : (s.sweep h).timerAsked = s.timerAsked := by
  unfold State.sweep; split <;> (try split) <;> (try split) <;> simp
@[simp] theorem State.sweep_gov (h : Nat) : (s.sweep h).gov = s.gov := by
  unfold State.sweep; split <;> (try split) <;> (try split) <;> simp
@[simp] theorem State.sweep_sweeper (h : Nat) : (s.sweep h).sweeper = s.sweeper := by
  unfold State.sweep; split <;> (try split) <;> (try split) <;> simp
@[simp] theorem State.sweep_strangers (h : Nat) : (s.sweep h).strangers = s.strangers := by
  unfold State.sweep; split <;> (try split) <;> (try split) <;> simp
@[simp] theorem State.sweep_medium (h : Nat) : (s.sweep h).medium = s.medium := by
  unfold State.sweep; split <;> (try split) <;> (try split) <;> simp
@[simp] theorem State.sweep_req (h : Nat) : (s.sweep h).req = s.req := by
  unfold State.sweep; split <;> (try split) <;> (try split) <;> simp
@[simp] theorem State.sweep_settings (h : Nat) : (s.sweep h).settings = s.settings := by
  unfold State.sweep; split <;> (try split) <;> (try split) <;> simp

/-! ### issueTo: all but records, tickets, pool, skip -/

@[simp] theorem State.issueTo_pending (t h : Nat) (r : Record) (limit : Nat) :
    (s.issueTo t h r limit).pending = s.pending := rfl
@[simp] theorem State.issueTo_pins (t h : Nat) (r : Record) (limit : Nat) :
    (s.issueTo t h r limit).pins = s.pins := rfl
@[simp] theorem State.issueTo_resetRecord (t h : Nat) (r : Record) (limit : Nat) :
    (s.issueTo t h r limit).resetRecord = s.resetRecord := rfl
@[simp] theorem State.issueTo_time (t h : Nat) (r : Record) (limit : Nat) :
    (s.issueTo t h r limit).time = s.time := rfl
@[simp] theorem State.issueTo_arbiter (t h : Nat) (r : Record) (limit : Nat) :
    (s.issueTo t h r limit).arbiter = s.arbiter := rfl
@[simp] theorem State.issueTo_lists (t h : Nat) (r : Record) (limit : Nat) :
    (s.issueTo t h r limit).lists = s.lists := rfl
@[simp] theorem State.issueTo_timerAsked (t h : Nat) (r : Record) (limit : Nat) :
    (s.issueTo t h r limit).timerAsked = s.timerAsked := rfl
@[simp] theorem State.issueTo_gov (t h : Nat) (r : Record) (limit : Nat) :
    (s.issueTo t h r limit).gov = s.gov := rfl
@[simp] theorem State.issueTo_sweeper (t h : Nat) (r : Record) (limit : Nat) :
    (s.issueTo t h r limit).sweeper = s.sweeper := rfl
@[simp] theorem State.issueTo_strangers (t h : Nat) (r : Record) (limit : Nat) :
    (s.issueTo t h r limit).strangers = s.strangers := rfl
@[simp] theorem State.issueTo_medium (t h : Nat) (r : Record) (limit : Nat) :
    (s.issueTo t h r limit).medium = s.medium := rfl
@[simp] theorem State.issueTo_notices (t h : Nat) (r : Record) (limit : Nat) :
    (s.issueTo t h r limit).notices = s.notices := rfl
@[simp] theorem State.issueTo_req (t h : Nat) (r : Record) (limit : Nat) :
    (s.issueTo t h r limit).req = s.req := rfl
@[simp] theorem State.issueTo_settings (t h : Nat) (r : Record) (limit : Nat) :
    (s.issueTo t h r limit).settings = s.settings := rfl

/-! ### acceptCompletion: all but tickets, pool, records, gov, lists, skip, notices -/

@[simp] theorem State.acceptCompletion_pending (c : Completion) (h : Nat) :
    (s.acceptCompletion c h).pending = s.pending := by
  simp [State.acceptCompletion]
@[simp] theorem State.acceptCompletion_pins (c : Completion) (h : Nat) :
    (s.acceptCompletion c h).pins = s.pins := by
  simp [State.acceptCompletion]
@[simp] theorem State.acceptCompletion_resetRecord (c : Completion) (h : Nat) :
    (s.acceptCompletion c h).resetRecord = s.resetRecord := by
  simp [State.acceptCompletion]
@[simp] theorem State.acceptCompletion_time (c : Completion) (h : Nat) :
    (s.acceptCompletion c h).time = s.time := by
  simp [State.acceptCompletion]
@[simp] theorem State.acceptCompletion_arbiter (c : Completion) (h : Nat) :
    (s.acceptCompletion c h).arbiter = s.arbiter := by
  simp [State.acceptCompletion]
@[simp] theorem State.acceptCompletion_timerAsked (c : Completion) (h : Nat) :
    (s.acceptCompletion c h).timerAsked = s.timerAsked := by
  simp [State.acceptCompletion]
@[simp] theorem State.acceptCompletion_sweeper (c : Completion) (h : Nat) :
    (s.acceptCompletion c h).sweeper = s.sweeper := by
  simp [State.acceptCompletion]
@[simp] theorem State.acceptCompletion_strangers (c : Completion) (h : Nat) :
    (s.acceptCompletion c h).strangers = s.strangers := by
  simp [State.acceptCompletion]
@[simp] theorem State.acceptCompletion_medium (c : Completion) (h : Nat) :
    (s.acceptCompletion c h).medium = s.medium := by
  simp [State.acceptCompletion]
@[simp] theorem State.acceptCompletion_req (c : Completion) (h : Nat) :
    (s.acceptCompletion c h).req = s.req := by
  simp [State.acceptCompletion]
@[simp] theorem State.acceptCompletion_settings (c : Completion) (h : Nat) :
    (s.acceptCompletion c h).settings = s.settings := by
  simp [State.acceptCompletion]

/-! ### expire: all but tickets, pool, records, gov, notices -/

@[simp] theorem State.expire_pending (n : Nat) (i : Issue) :
    (s.expire n i).pending = s.pending := by
  simp [State.expire]
@[simp] theorem State.expire_pins (n : Nat) (i : Issue) : (s.expire n i).pins = s.pins := by
  simp [State.expire]
@[simp] theorem State.expire_resetRecord (n : Nat) (i : Issue) :
    (s.expire n i).resetRecord = s.resetRecord := by
  simp [State.expire]
@[simp] theorem State.expire_time (n : Nat) (i : Issue) : (s.expire n i).time = s.time := by
  simp [State.expire]
@[simp] theorem State.expire_arbiter (n : Nat) (i : Issue) :
    (s.expire n i).arbiter = s.arbiter := by
  simp [State.expire]
@[simp] theorem State.expire_lists (n : Nat) (i : Issue) : (s.expire n i).lists = s.lists := by
  simp [State.expire]
@[simp] theorem State.expire_skip (n : Nat) (i : Issue) : (s.expire n i).skip = s.skip := by
  simp [State.expire]
@[simp] theorem State.expire_timerAsked (n : Nat) (i : Issue) :
    (s.expire n i).timerAsked = s.timerAsked := by
  simp [State.expire]
@[simp] theorem State.expire_sweeper (n : Nat) (i : Issue) :
    (s.expire n i).sweeper = s.sweeper := by
  simp [State.expire]
@[simp] theorem State.expire_strangers (n : Nat) (i : Issue) :
    (s.expire n i).strangers = s.strangers := by
  simp [State.expire]
@[simp] theorem State.expire_medium (n : Nat) (i : Issue) : (s.expire n i).medium = s.medium := by
  simp [State.expire]
@[simp] theorem State.expire_req (n : Nat) (i : Issue) : (s.expire n i).req = s.req := by
  simp [State.expire]
@[simp] theorem State.expire_settings (n : Nat) (i : Issue) :
    (s.expire n i).settings = s.settings := by
  simp [State.expire]

/-! ### notifyAll: all but notices -/

@[simp] theorem State.notifyAll_pending (b : List NoticeBody) :
    (s.notifyAll b).pending = s.pending := by
  simp only [State.notifyAll]; induction b generalizing s <;> simp_all
@[simp] theorem State.notifyAll_pins (b : List NoticeBody) : (s.notifyAll b).pins = s.pins := by
  simp only [State.notifyAll]; induction b generalizing s <;> simp_all
@[simp] theorem State.notifyAll_resetRecord (b : List NoticeBody) :
    (s.notifyAll b).resetRecord = s.resetRecord := by
  simp only [State.notifyAll]; induction b generalizing s <;> simp_all
@[simp] theorem State.notifyAll_time (b : List NoticeBody) : (s.notifyAll b).time = s.time := by
  simp only [State.notifyAll]; induction b generalizing s <;> simp_all
@[simp] theorem State.notifyAll_arbiter (b : List NoticeBody) :
    (s.notifyAll b).arbiter = s.arbiter := by
  simp only [State.notifyAll]; induction b generalizing s <;> simp_all
@[simp] theorem State.notifyAll_records (b : List NoticeBody) :
    (s.notifyAll b).records = s.records := by
  simp only [State.notifyAll]; induction b generalizing s <;> simp_all
@[simp] theorem State.notifyAll_lists (b : List NoticeBody) : (s.notifyAll b).lists = s.lists := by
  simp only [State.notifyAll]; induction b generalizing s <;> simp_all
@[simp] theorem State.notifyAll_skip (b : List NoticeBody) : (s.notifyAll b).skip = s.skip := by
  simp only [State.notifyAll]; induction b generalizing s <;> simp_all
@[simp] theorem State.notifyAll_tickets (b : List NoticeBody) :
    (s.notifyAll b).tickets = s.tickets := by
  simp only [State.notifyAll]; induction b generalizing s <;> simp_all
@[simp] theorem State.notifyAll_pool (b : List NoticeBody) : (s.notifyAll b).pool = s.pool := by
  simp only [State.notifyAll]; induction b generalizing s <;> simp_all
@[simp] theorem State.notifyAll_timerAsked (b : List NoticeBody) :
    (s.notifyAll b).timerAsked = s.timerAsked := by
  simp only [State.notifyAll]; induction b generalizing s <;> simp_all
@[simp] theorem State.notifyAll_gov (b : List NoticeBody) : (s.notifyAll b).gov = s.gov := by
  simp only [State.notifyAll]; induction b generalizing s <;> simp_all
@[simp] theorem State.notifyAll_sweeper (b : List NoticeBody) :
    (s.notifyAll b).sweeper = s.sweeper := by
  simp only [State.notifyAll]; induction b generalizing s <;> simp_all
@[simp] theorem State.notifyAll_strangers (b : List NoticeBody) :
    (s.notifyAll b).strangers = s.strangers := by
  simp only [State.notifyAll]; induction b generalizing s <;> simp_all
@[simp] theorem State.notifyAll_medium (b : List NoticeBody) :
    (s.notifyAll b).medium = s.medium := by
  simp only [State.notifyAll]; induction b generalizing s <;> simp_all
@[simp] theorem State.notifyAll_req (b : List NoticeBody) : (s.notifyAll b).req = s.req := by
  simp only [State.notifyAll]; induction b generalizing s <;> simp_all
@[simp] theorem State.notifyAll_settings (b : List NoticeBody) :
    (s.notifyAll b).settings = s.settings := by
  simp only [State.notifyAll]; induction b generalizing s <;> simp_all

end Sys2Proof.Machine
end

