-- ==== Sys2Proof/Laws/Ops.lean ====
section
/-! SUPPORT. What the shared operations do, each said once: reads after writes of records, tickets and
lists, the judgement of eligibility, the arbiter, charges, the guards of commands, and the ends of
transactions. -/

namespace Sys2Proof.Machine

/-! ### Class maps -/

@[simp] theorem ClassMap.get_set {α : Type} (m : ClassMap α) (c d : Cls) (v : α) :
    (m.set c v).get d = if c = d then v else m.get d := by
  cases c <;> cases d <;> rfl

@[simp] theorem ClassMap.background_set {α : Type} (m : ClassMap α) (c : Cls) (v : α) :
    (m.set c v).background = if c = .background then v else m.background := by
  cases c <;> rfl

theorem ClassMap.background_eq_get {α : Type} (m : ClassMap α) : m.background = m.get .background := rfl

/-! ### Records -/

theorem State.record_eq (s : State) (h : Nat) : s.record h = (s.records[h]?).join := rfl

theorem State.record_putRecord (s : State) (h k : Nat) (r : Option Record) :
    (s.putRecord h r).record k = if h = k ∧ h < 640 then r else s.record k := by
  simp only [State.record, State.putRecord_records]; grind

theorem State.lt_of_record {s : State} {h : Nat} {r : Record} (hr : s.record h = some r) : h < 640 := by
  simp only [State.record] at hr
  by_contra hn
  have : s.records[h]? = none := by grind
  simp [this] at hr

/-- A record that is not FREE, replaced, reads as its replacement. -/
theorem State.record_putRecord_self {s : State} {h : Nat} {r : Record} (hr : s.record h = some r)
    (q : Option Record) : (s.putRecord h q).record h = q := by
  simp [State.record_putRecord, State.lt_of_record hr]

theorem State.record_putRecord_other {s : State} {h k : Nat} (hk : k ≠ h) (q : Option Record) :
    (s.putRecord h q).record k = s.record k := by
  simp only [State.record_putRecord]; grind

theorem State.record_mapRecords (s : State) (f : Record → Record) (k : Nat) :
    (s.mapRecords f).record k = (s.record k).map f := by
  simp only [State.record, State.mapRecords_records]; grind

theorem State.updateRecord_some {s : State} {h : Nat} {r : Record} (hr : s.record h = some r)
    (f : Record → Record) : s.updateRecord h f = s.putRecord h (some (f r)) := by
  simp [State.updateRecord, hr]

theorem State.updateRecord_none {s : State} {h : Nat} (hr : s.record h = none)
    (f : Record → Record) : s.updateRecord h f = s := by
  simp [State.updateRecord, hr]

/-- States with the same records read the same. -/
theorem State.record_congr {s t : State} (h : t.records = s.records) (k : Nat) :
    t.record k = s.record k := by
  simp only [State.record, h]

theorem State.occupancy_congr {s t : State} (h : t.records = s.records) (c : Cls) :
    t.occupancy c = s.occupancy c := by
  simp only [State.occupancy, h]

theorem State.indexLookup_congr {s t : State} (h : t.records = s.records) (a : Address) :
    t.indexLookup a = s.indexLookup a := by
  simp only [State.indexLookup, h]

theorem State.classSettings_congr {s t : State} (h : t.settings = s.settings) (c : Cls) :
    t.classSettings c = s.classSettings c := by
  simp only [State.classSettings, h]

/-! ### Tickets -/

theorem State.ticket_putTicket (s : State) (n k : Nat) (t : Ticket) :
    (s.putTicket n t).ticket k = if n = k ∧ n < 24 then t else s.ticket k := by
  simp only [State.ticket, State.putTicket_tickets]; grind

theorem State.ticket_congr {s t : State} (h : t.tickets = s.tickets) (k : Nat) :
    t.ticket k = s.ticket k := by
  simp only [State.ticket, h]

theorem State.lt_of_issue {s : State} {n : Nat} {i : Issue} (h : (s.ticket n).issue = some i) :
    n < 24 := by
  simp only [State.ticket] at h
  by_contra hn
  have : s.tickets[n]? = none := by grind
  simp [this] at h

theorem State.ticket_returnTicket (s : State) (n k : Nat) :
    (s.returnTicket n).ticket k =
      if n = k ∧ n < 24 then ⟨(s.ticket n).seq, none⟩ else s.ticket k := by
  simp only [State.ticket, State.returnTicket_tickets]; grind

theorem State.ticket_returnAll (s : State) (k : Nat) :
    s.returnAll.ticket k = ⟨(s.ticket k).seq, none⟩ := by
  simp only [State.ticket, State.returnAll_tickets]; grind

theorem State.ticket_passTime (s : State) (dt k : Nat) :
    (s.passTime dt).ticket k = (s.ticket k).after dt := by
  simp only [State.ticket, State.passTime_tickets, Ticket.after]; grind

/-! ### Service lists and the judgement of eligibility -/

theorem State.isListed_iff (s : State) (h : Nat) (c : Cls) :
    s.isListed h c = true ↔ h ∈ s.lists.get c := by
  simp [State.isListed]

theorem judgedSkip_kept {s : State} {c : Cls} {h : Nat} {e : Bool}
    (hk : c = .background → s.lists.background ≠ [] → judgedList s.lists.background h e ≠ []) :
    judgedSkip s c h e = s.skip := by
  rw [judgedSkip, if_neg]
  rintro ⟨hc, hne, hn⟩
  exact hk hc hne hn

/-- Everything that a removal from a list does (R92, R102). -/
theorem State.unlist_judged (s : State) (c : Cls) (h : Nat) : Judged s (s.unlist c h) c h false := by
  by_cases hl : s.isListed h c = true
  · have hm := (s.isListed_iff h c).1 hl
    refine ⟨?_, ?_, ?_⟩
    · simp [State.unlist, hl, judgedList]
    · intro d hd
      have : c ≠ d := fun e => hd e.symm
      simp [State.unlist, hl, this]
    · have hne := List.ne_nil_of_mem hm
      simp only [State.unlist, hl, if_true, judgedSkip, judgedList, Bool.false_eq_true, if_false]
      cases c <;> simp_all [ClassMap.get]
  · have hm : h ∉ s.lists.get c := fun m => hl ((s.isListed_iff h c).2 m)
    have hu : s.unlist c h = s := by simp [State.unlist, hl]
    rw [hu]
    refine ⟨?_, fun d _ => rfl, ?_⟩
    · simp [judgedList, List.erase_of_not_mem hm]
    · rw [judgedSkip_kept]
      rintro rfl hne
      have hb : h ∉ s.lists.background := hm
      simpa [judgedList, List.erase_of_not_mem hb] using hne

/-- Everything that the judgement of one record does (R92, R102). -/
theorem State.judge_judged {s : State} {h : Nat} {r : Record} (hr : s.record h = some r) :
    Judged s (s.judge h) r.cls h r.eligible := by
  cases he : r.eligible
  · have : s.judge h = s.unlist r.cls h := by simp [State.judge, hr, he]
    rw [this]; exact s.unlist_judged r.cls h
  · have keep : judgedSkip s r.cls h true = s.skip := by
      refine judgedSkip_kept fun _ hne => ?_
      simp only [judgedList, if_true]
      split <;> simp_all
    by_cases hl : s.isListed h r.cls = true
    · have hm := (s.isListed_iff h r.cls).1 hl
      have hj : s.judge h = s := by simp [State.judge, hr, he, hl]
      rw [hj]
      exact ⟨by simp [judgedList, hm], fun d _ => rfl, keep.symm⟩
    · have hm : h ∉ s.lists.get r.cls := fun m => hl ((s.isListed_iff h r.cls).2 m)
      have hj : s.judge h = s.joinTail r.cls h := by simp [State.judge, hr, he, hl]
      rw [hj]
      refine ⟨by simp [judgedList, hm], ?_, by simpa using keep.symm⟩
      intro d hd
      have : r.cls ≠ d := fun e => hd e.symm
      simp [this]

/-! ### Notices -/

theorem NoticeQueue.append_length (q : NoticeQueue) (c : NoticeSettings) (n : Notice)
    (h : q.queue.length ≤ 32) : (q.append c n).queue.length ≤ 32 := by
  simp only [NoticeQueue.append]; grind

/-! ### The Table Arbiter -/

theorem State.ask_free {s : State} {c : Client} (h : s.arbiter.holder = none) :
    (s.ask c).arbiter = ⟨some c, c⟩ := by
  simp [State.ask, h]

theorem State.ask_held {s : State} {c d : Client} (h : s.arbiter.holder = some d) : s.ask c = s := by
  simp [State.ask, h]

/-- Every client stands in the cyclic order after any client (R19). -/
theorem Client.mem_after (c d : Client) : d ∈ c.after := by
  cases c <;> cases d <;> decide

/-- Everything that the end of a transaction does to the arbiter (R19). -/
theorem State.release_released (s : State) : TableReleased s s.release := by
  have ha : s.release.asking = s.asking := by
    funext c; cases c <;> simp [State.asking]
  rw [TableReleased, ha, State.release]
  cases List.find? s.asking s.arbiter.lastServed.after <;> rfl

/-! ### Charges -/

theorem State.charge_some {s : State} {h : Nat} {r : Record} (hr : s.record h = some r) (n : Nat) :
    (s.charge h n).record h = some (r.charge n) ∧ OtherRecordsSame h s (s.charge h n) ∧
      (s.charge h n).gov = s.gov.count n (r.cls == .podium) := by
  have hl := State.lt_of_record hr
  simp only [State.charge, hr]
  refine ⟨?_, ?_, trivial⟩
  · exact State.record_putRecord_self hr _
  · intro k hk
    exact State.record_putRecord_other hk _

/-! ### The guards of commands -/

theorem State.unlessReset_free {s : State} (h : s.inReset = false) (f : State → State) :
    s.unlessReset f = .next (f s) := by
  simp [State.unlessReset, h]

theorem State.unlessReset_held {s : State} (h : s.inReset = true) (f : State → State) :
    s.unlessReset f = .next s := by
  simp [State.unlessReset, h]

theorem State.inMediumTransaction_ready {s : State} {tag : BitVec 4} {b : MessageBody}
    (h : s.MediumReady tag b) (f : Message → Option State) :
    s.inMediumTransaction f = .next ((f ⟨tag, b⟩).getD s) := by
  simp [State.inMediumTransaction, State.unlessReset_free h.free, h.holder, h.work]

theorem State.inHostTransaction_ready {s : State} {r : Request} (h : s.HostReady r)
    (f : Request → Option State) : s.inHostTransaction f = .next ((f r).getD s) := by
  simp [State.inHostTransaction, State.unlessReset_free h.free, h.holder, h.port]

theorem State.inHostRequest_working {s : State} {r : Request} (h : s.HostWorking r)
    (f : Request → Option State) : s.inHostRequest f = .next ((f r).getD s) := by
  simp [State.inHostRequest, State.unlessReset_free h.free, h.port]

/-! ### The ends of transactions -/

theorem State.endMedium_medium (s : State) (tag : BitVec 4) (a : MediumAnswer) :
    MediumAnswered s (s.endMedium tag a) tag a := by
  simp [MediumAnswered, State.endMedium]

theorem State.endHost_req (s : State) (a : HostAnswer) : HostAnswered s (s.endHost a) a := by
  simp [HostAnswered, State.endHost]

theorem State.endMedium_released (s : State) (tag : BitVec 4) (a : MediumAnswer) :
    TableReleased s (s.endMedium tag a) := by
  have h := (s.placeAnswer tag a).release_released
  simpa [TableReleased, State.endMedium] using h

theorem State.endHost_released (s : State) (a : HostAnswer) : TableReleased s (s.endHost a) := by
  have h := (s.hostAnswer a).release_released
  simpa [TableReleased, State.endHost] using h

/-! ### Frames as one term -/

/-- A frame from its eighteen parts. -/
theorem UnchangedExcept.of_parts {parts : List Part} {s t : State}
    (h : ∀ p, p ∈ parts ∨ p.Same s t) : UnchangedExcept parts s t := fun p hp =>
  (h p).resolve_left hp

theorem UnchangedExcept.refl (parts : List Part) (s : State) : UnchangedExcept parts s s := fun p _ => by
  cases p <;> rfl

/-- Frames compose. -/
theorem UnchangedExcept.trans {a b : List Part} {s t u : State} (h : UnchangedExcept a s t)
    (g : UnchangedExcept b t u) : UnchangedExcept (a ++ b) s u := fun p hp => by
  have h1 := h p (fun m => hp (List.mem_append_left _ m))
  have h2 := g p (fun m => hp (List.mem_append_right _ m))
  cases p <;> simp_all [Part.Same]

end Sys2Proof.Machine
end

