-- ==== Sys2Proof/Laws/Passage.lean ====
section
/-! SUPPORT. The part left to itself: what holds of every own step and of every passage of time holds of a
whole stretch of both, and what a timed command does at its event's own moment. -/

namespace Sys2Proof.Machine

/-! ### One moment -/

variable {own : State → Option Instr}

theorem State.settle_of_none {s : State} (h : own s = none) (n : Nat) : State.settle own n s = s := by
  cases n <;> simp [State.settle, h]

theorem State.settle_of_some {s : State} {c : Instr} (h : own s = some c) (n : Nat) :
    State.settle own (n + 1) s = State.settle own n (s.ownEffect c) := by
  simp [State.settle, h]

theorem State.settled_of_none {s : State} (h : own s = none) : s.settled own = s :=
  State.settle_of_none h _

/-- What every own step keeps, the own steps of one moment keep. -/
theorem State.settle_induction {P : State → Prop}
    (work : ∀ s c, P s → own s = some c → P (s.ownEffect c)) :
    ∀ (n : Nat) (s : State), P s → P (State.settle own n s)
  | 0, _, h => h
  | n + 1, s, h => by
    cases hc : own s with
    | none => rwa [State.settle_of_none hc]
    | some c =>
      rw [State.settle_of_some hc]
      exact State.settle_induction work n _ (work s c h hc)

/-! ### A stretch of time -/

theorem State.elapse_zero (s : State) : s.elapse own 0 = s := rfl

/-- What every own step and every passage of time keep, a stretch of the part left to itself keeps. -/
theorem State.elapseIn_induction {P : State → Prop}
    (work : ∀ s c, P s → own s = some c → P (s.ownEffect c))
    (time : ∀ s n, P s → P (s.passTime n)) :
    ∀ (k n : Nat) (s : State), P s → P (State.elapseIn own k n s)
  | 0, _, _, h => h
  | k + 1, n, s, h => by
    rw [State.elapseIn]
    split
    · exact h
    · exact State.elapseIn_induction work time k _ _
        (time _ _ (State.settle_induction work _ s h))

theorem State.elapse_induction {P : State → Prop}
    (work : ∀ s c, P s → own s = some c → P (s.ownEffect c))
    (time : ∀ s n, P s → P (s.passTime n)) (s : State) (n : Nat) (h : P s) : P (s.elapse own n) :=
  State.elapseIn_induction work time n n s h

/-! ### Timed commands -/

theorem State.upTo_none {s : State} {left : State → Option Nat} (h : left s = none) :
    s.upTo own left = s := by
  simp [State.upTo, h]

theorem State.upTo_now {s : State} {left : State → Option Nat} (h : left s = some 0) :
    s.upTo own left = s := by
  simp [State.upTo, h]

theorem State.upTo_later {s : State} {left : State → Option Nat} {n m : Nat}
    (h : left s = some (n + 1)) (hm : left (s.settled own) = some m) :
    s.upTo own left = (s.settled own).elapse own m := by
  simp [State.upTo, h, hm]

theorem State.upTo_gone {s : State} {left : State → Option Nat} {n : Nat}
    (h : left s = some (n + 1)) (hm : left (s.settled own) = none) : s.upTo own left = s.settled own := by
  simp [State.upTo, h, hm]

/-- At the event's own moment a timed command is the event. -/
theorem State.timedEvent_now {s : State} {left : State → Option Nat} (h : left s = some 0)
    (event : State → State) : s.timedEvent own left event = event s := by
  simp [State.timedEvent, State.upTo_now h, h]

/-- An event that is not to come does not happen. -/
theorem State.timedEvent_none {s : State} {left : State → Option Nat} (h : left s = none)
    (event : State → State) : s.timedEvent own left event = s := by
  simp [State.timedEvent, State.upTo_none h, h]

/-- What every own step, every passage of time and the event keep, a timed command keeps. -/
theorem State.timedEvent_induction {P : State → Prop}
    (work : ∀ s c, P s → own s = some c → P (s.ownEffect c))
    (time : ∀ s n, P s → P (s.passTime n)) {left : State → Option Nat} {event : State → State}
    (happens : ∀ s, P s → left s = some 0 → P (event s)) {s : State} (h : P s) :
    P (s.timedEvent own left event) := by
  have settled : P (s.settled own) := State.settle_induction work _ s h
  have reached : P (s.upTo own left) := by
    rw [State.upTo]
    split
    · exact h
    · exact h
    · split
      · exact settled
      · exact State.elapse_induction work time _ _ settled
  rw [State.timedEvent]
  split
  · rename_i hz
    exact happens _ reached hz
  · exact reached

/-- A due ticket leaves no time to the nearest deadline. -/
theorem nearestDeadline_of_due {l : List Ticket} (h : l.any Ticket.due = true) :
    nearestDeadline l = some 0 := by
  induction l with
  | nil => simp at h
  | cons t rest ih =>
    simp only [List.any_cons, Bool.or_eq_true] at h
    rw [nearestDeadline]
    rcases h with ht | hr
    · rw [Ticket.due] at ht
      split at ht
      · rename_i i hi
        have hz : i.left.toNat = 0 := by simp at ht; omega
        rw [hi]
        cases nearestDeadline rest <;> simp [hz]
      · simp at ht
    · rw [ih hr]
      cases t.issue <;> simp

/-! ### The part's own next step -/

/-- What the part's own next step can be: a request, a message taken, a transaction, or a timed event whose
moment has come. -/
theorem State.ownStep_cases {s : State} {c : Instr} (h : s.ownStep = some c) :
    s.inReset = false ∧ ((∃ r : Request, c = r.command) ∨ (∃ b : MessageBody, b.command = some c) ∨
      c = .messageTake ∨ c = .expiry ∨ c = .sweeperStep ∨
      (c = .windowEnd ∧ s.windowLeft = some 0) ∨
      (c = .coalesceTimerExpiry ∧ s.coalesceLeft = some 0) ∨
      (c = .ticketDue ∧ s.deadlineLeft = some 0) ∨
      (c = .periodTimerExpiry ∧ s.periodLeft = some 0)) := by
  rw [State.ownStep] at h
  split at h
  · simp at h
  rename_i hr
  refine ⟨by simpa using hr, ?_⟩
  simp only [Option.orElse_eq_orElse, Option.orElse_eq_or, Option.or_eq_some_iff] at h
  rcases h with h | ⟨-, h | ⟨-, h | ⟨-, h⟩⟩⟩
  · unfold State.directStep at h; grind
  · unfold State.timerStep at h
    simp only [State.windowLeft, State.coalesceLeft]; grind
  · obtain ⟨d, -, hd⟩ := List.exists_of_findSome?_eq_some h
    have due : s.anyDue = true → s.deadlineLeft = some 0 := fun a => nearestDeadline_of_due a
    cases d <;> simp [State.askStep] at hd <;> simp only [State.periodLeft] <;> grind
  · unfold State.transactionStep at h
    split at h
    · simp at h
    · obtain ⟨m, -, hm⟩ := Option.bind_eq_some_iff.1 h
      exact .inr (.inl ⟨m.body, hm⟩)
    · grind
    · grind
    · grind

/-- A step of a loaded part is the part's own next step. -/
theorem State.heldStep_own {s : State} {c : Instr} (h : s.heldStep = some c) : s.ownStep = some c := by
  rw [State.heldStep] at h
  split at h
  · rename_i hs
    split at h
    · rwa [hs]
    · simp at h
  · exact h

/-- The part's own next step does what its command does. -/
theorem State.exec_ownStep {s : State} {c : Instr} (h : s.ownStep = some c) :
    exec c s = .next (s.ownEffect c) := by
  obtain ⟨hr, hc⟩ := State.ownStep_cases h
  rcases hc with ⟨r, rfl⟩ | ⟨b, hb⟩ | rfl | rfl | rfl | ⟨rfl, hz⟩ | ⟨rfl, hz⟩ | ⟨rfl, hz⟩ | ⟨rfl, hz⟩
  · cases r <;> rfl
  · cases b <;> simp only [MessageBody.command, Option.some.injEq, reduceCtorEq] at hb <;> subst hb <;> rfl
  · rfl
  · rfl
  · rfl
  · simp [exec, execWindowEnd, State.unlessReset_free hr, State.timedEvent_now hz, State.ownEffect]
  · simp [exec, execCoalesceTimerExpiry, State.unlessReset_free hr, State.timedEvent_now hz,
      State.ownEffect]
  · simp [exec, execTicketDue, State.unlessReset_free hr, State.timedEvent_now hz, State.ownEffect]
  · simp [exec, execPeriodTimerExpiry, State.unlessReset_free hr, State.timedEvent_now hz,
      State.ownEffect]

end Sys2Proof.Machine
end

