-- ==== Sys2Proof/Tests/Slice0.lean ====
section
/-! SUPPORT. Tests: ill-formed commands that WellFormed refuses, one step of each family from the spec's own
examples, and for each statement with hypotheses a state and operands that meet them. -/

namespace Sys2Proof.Tests

open Sys2Proof Sys2Proof.Machine

/-! ### Ill-formed commands -/

theorem test_illFormed_stray_header : (Instr.strayBodyWord 0x8800).wellFormed = false := by decide
theorem test_illFormed_submit_fall : (Instr.submit .fall [0x01] 0).wellFormed = false := by decide
theorem test_illFormed_submit_fall_bits : (Instr.submit .fall [] 1).wellFormed = false := by decide
theorem test_illFormed_submit_rise : (Instr.submit .rise [] 8).wellFormed = false := by decide
theorem test_illFormed_submit_whole : (Instr.submit .whole [] 8).wellFormed = false := by decide
theorem test_illFormed_collect_fall : (Instr.collect .fall 1 0).wellFormed = false := by decide
theorem test_illFormed_collect_fall_bits : (Instr.collect .fall 0 1).wellFormed = false := by decide
theorem test_illFormed_collect_rise : (Instr.collect .rise 3 8).wellFormed = false := by decide
theorem test_illFormed_collect_whole : (Instr.collect .whole 3 8).wellFormed = false := by decide
theorem test_illFormed_status_fall :
    (Instr.statusOnlyTransaction .fall (some 0) 0).wellFormed = false := by decide
theorem test_illFormed_status_fall_count :
    (Instr.statusOnlyTransaction .fall none 1).wellFormed = false := by decide
theorem test_illFormed_status_no_direction :
    (Instr.statusOnlyTransaction .whole none 1).wellFormed = false := by decide
theorem test_illFormed_status_submit :
    (Instr.statusOnlyTransaction .whole (some 0xA5) 2).wellFormed = false := by decide
theorem test_illFormed_status_collect :
    (Instr.statusOnlyTransaction .rise (some 0x5A) 2).wellFormed = false := by decide
theorem test_no_word_spells_a_command : decodeTableWord 16 0x8800 = none := by decide

/-! ### Small states -/

/-- The state a command leaves. -/
def after : Result → State
  | .next s => s
  | _ => State.reset

/-- A part out of reset, the Medium Engine RUNNING and holding the table with a message of tag 5. -/
def atMedium (s : State) (b : MessageBody) : State :=
  { s with
    arbiter := ⟨some .mediumEngine, .mediumEngine⟩
    medium := { s.medium with engine := .running, work := some ⟨5, b⟩ } }

/-- A part whose Request Engine holds the table and executes a request. -/
def atHost (s : State) (r : Request) : State :=
  { s with
    arbiter := ⟨some .requestEngine, .requestEngine⟩
    req := { s.req with port := .working r, csnSeen := true } }

/-- A SEAT record of address 02:5C:11:A0:3E:07. -/
def seat : Record where
  state := .active
  address := 0x025C11A03E07
  cls := .seat
  weight := 1
  label := some 0x1234
  lingerOverride := none
  burstOverride := none
  psMark := .awake
  aged := false
  rate := 540
  balance := 600
  backlog := 9
  held := 0
  linger := 900
  consumed := 0
  grantCount := 0
  lowest := 600
  highest := 9

/-- The part with this record at handle 230, and in its list when it is eligible. -/
def withStation (r : Record) : State :=
  { State.reset.putRecord 230 (some r) with
    lists := if r.eligible then State.reset.lists.set r.cls [230] else State.reset.lists }

/-- The same, holding ticket 3 of sequence 7 and limit 500, `left` µs from its deadline. -/
def withTicket (r : Record) (left : Int) : State :=
  { (withStation r).putTicket 3 ⟨7, some ⟨230, 500, left⟩⟩ with
    pool := (List.range 24).erase 3 }

theorem atMedium_ready {s : State} (b : MessageBody) (h : s.inReset = false) :
    (atMedium s b).MediumReady 5 b := ⟨h, rfl, rfl⟩

theorem atHost_ready {s : State} (r : Request) (h : s.inReset = false) :
    (atHost s r).HostReady r := ⟨h, rfl, rfl⟩

theorem atHost_working {s : State} (r : Request) (h : s.inReset = false) :
    (atHost s r).HostWorking r := ⟨h, rfl⟩

/-! ### One step of each family -/

/-- Table 1-8: a DEMAND of 14. -/
theorem test_demand : let t := after (exec .demand (atMedium (withStation seat) (.demand 230 14)))
    ((t.record 230).map fun r => (r.backlog, r.highest)) = some (14, 14) ∧
      t.medium.answers = [⟨5, false, .done none⟩] := by decide +kernel

/-- Table 1-8: a COMPLETE of 1,900 µs used and 6 frames acked. -/
theorem test_complete : let t := after (exec .complete
      (atMedium (withTicket { seat with backlog := 14, highest := 14, held := 1 } 900)
        (.complete ⟨3, 7, 1900, 6, 6, none, none⟩)))
    ((t.record 230).map fun r => (r.balance, r.backlog, r.lowest, r.highest, r.held)) =
      some (-1300, 8, -1300, 14, 0) ∧
      t.medium.answers = [⟨5, false, .done (some 230)⟩] ∧ t.pool.getLast? = some 3 := by
  decide +kernel

theorem test_complete_stale : (after (exec .complete
      (atMedium (withTicket { seat with held := 1 } 900)
        (.complete ⟨3, 6, 1900, 6, 6, none, none⟩)))).medium.answers =
      [⟨5, false, .stale 3 7⟩] := by decide +kernel

/-- Table 1-8: a READ_RECORD with clear. -/
theorem test_readRecord_clear : let s := atHost (withStation { seat with
        balance := -1300, backlog := 8, lowest := -1300, highest := 14 }) (.readRecord 230 true)
    ((after (exec .readRecord s)).record 230).map (fun r => (r.lowest, r.highest)) =
      some (-1300, 8) := by decide +kernel

theorem test_opportunity_grant : let t := after (exec .opportunity
      (atMedium (withStation seat) (.opportunity 0)))
    t.medium.answers = [⟨5, false, .grant 0 1 230 0x025C11A03E07 600 9⟩] ∧
      (t.record 230).map (fun r => (r.held, r.grantCount, r.balance)) = some (1, 1, 600) := by
  decide +kernel

theorem test_opportunity_defer_tops_up : let t := after (exec .opportunity
      (atMedium (withStation { seat with balance := -32768 }) (.opportunity 0)))
    t.medium.answers = [⟨5, false, .defer 2⟩] ∧
      (t.record 230).map (fun r => r.balance) = some (-31768) ∧ t.lists.seat = [230] := by
  decide +kernel

theorem test_opportunity_topUp_then_grant : (after (exec .opportunity
      (atMedium (withStation { seat with balance := -100 }) (.opportunity 300)))).medium.answers =
      [⟨5, false, .grant 0 1 230 0x025C11A03E07 300 9⟩] := by decide +kernel

theorem test_heard_dozes : let t := after (exec .heard
      (atMedium (withStation { seat with linger := 2, aged := true })
        (.heard ⟨0x025C11A03E07, .data, .asleep, none⟩)))
    (t.record 230).map (fun r => (r.state, r.linger, r.aged, r.rate)) =
      some (.dozing, 900, false, 540) ∧ t.lists.seat = [] := by decide +kernel

theorem test_heard_stranger : let t := after (exec .heard
      (atMedium State.reset (.heard ⟨7, .mgmt, .awake, some 60⟩)))
    t.strangers = [7] ∧ t.notices.queue = [⟨0, .stranger 7 .mgmt (some 60)⟩] ∧
      t.medium.answers = [⟨5, false, .unknown⟩] := by decide +kernel

theorem test_resync : let t := after (exec .resync (atMedium
      (withTicket { seat with state := .retiring .host, held := 1 } 900) .resync))
    t.record 230 = none ∧ t.medium.answers = [⟨5, false, .resynced 1⟩] ∧
      t.notices.queue = [⟨0, .retired 230 0x025C11A03E07 (some 0x1234) 0 .resync⟩] := by
  decide +kernel

theorem test_expiry : let t := after (exec .expiry { withTicket { seat with held := 1 } 0 with
      arbiter := ⟨some .ticketTimer, .ticketTimer⟩, timerAsked := true })
    (t.record 230).map (fun r => (r.balance, r.consumed, r.held)) = some (100, 500, 0) ∧
      t.notices.queue = [⟨0, .expired 230 (some 0x1234) 3 500⟩] ∧ t.gov.windowUsage = 500 ∧
      t.timerAsked = false := by decide +kernel

theorem test_sweeper_frees : let t := after (exec .sweeperStep { withStation { seat with linger := 1 } with
      arbiter := ⟨some .sweeper, .sweeper⟩, sweeper := ⟨5, some 230⟩ })
    t.record 230 = none ∧ t.lists.seat = [] ∧ t.sweeper.pass = some 231 ∧
      t.notices.queue = [⟨0, .aged 230 0x025C11A03E07 (some 0x1234) .freed⟩] := by decide +kernel

theorem test_windowEnd_crowds : let t := after (exec .windowEnd
      { State.reset with gov := { State.reset.gov with windowUsage := 85000 } })
    t.gov = ⟨.crowded, 20, 0, 0, 85, 85, 100000, 0⟩ ∧ t.time.ms = 100 ∧
      t.notices.queue = [⟨100, .governor .crowded 85⟩] := by decide +kernel


/-- A hold of 250 ms: two windows end in it, the first judged CROWDED, and the coalescing timer of the
GOVERNOR notice runs out. -/
theorem test_hold_windows_go_on : let t := after (exec .holdCounterExpiry
      { State.reset with gov := { State.reset.gov with hold := 250000, windowUsage := 85000 } })
    t.gov = ⟨.crowded, 19, 0, 0, 0, 85, 50000, 0⟩ ∧ t.time.ms = 250 ∧ t.notices.attn = true := by
  decide +kernel

/-- A hold of 20 ms: a ticket with 5 ms left expires in it. -/
theorem test_hold_expiries_go_on : let t := after (exec .holdCounterExpiry
      { withTicket { seat with held := 1 } 5000 with gov := { State.reset.gov with hold := 20000 } })
    t.pool.length = 24 ∧ (t.record 230).map (fun r => (r.balance, r.held)) = some (100, 0) ∧
      t.notices.queue.length = 1 ∧ t.gov.hold = 0 ∧ t.arbiter.holder = none := by
  decide +kernel

/-- A message that waits while a pass steps is taken before the step ends, and is served after it. -/
theorem test_pass_lets_message_in :
    let s : State := { State.reset with
      sweeper := ⟨5, some 0⟩
      arbiter := ⟨some .sweeper, .sweeper⟩
      medium := { State.reset.medium with inbound := [⟨0xB280, []⟩] } }
    let t := after (step s)
    s.ownStep = some .messageTake ∧ t.ownStep = some .sweeperStep ∧
      (after (step t)).arbiter = ⟨some .mediumEngine, .mediumEngine⟩ ∧
      (after (step t)).sweeper.pass = some 1 := by decide +kernel

/-- A ticket that becomes due with the start of a pass is served after one step of it. -/
theorem test_pass_lets_expiry_in :
    let s : State := { withTicket { seat with held := 1 } 0 with
      sweeper := ⟨5, some 0⟩
      arbiter := ⟨some .sweeper, .sweeper⟩ }
    s.ownStep = some .ticketDue ∧ (after (step s)).ownStep = some .sweeperStep ∧
      (after (step (after (step s)))).ownStep = some .expiry := by decide +kernel

theorem test_admit_lowest_free : let t := after (exec .admitStation
      (atHost { State.reset with strangers := [9, 7] } (.admitStation ⟨9, .podium, 2, none, some 5, none⟩)))
    t.req.port = .answerReady (.admitted 0) ∧ t.strangers = [7] ∧
      (t.record 0).map (fun r => (r.balance, r.linger, r.psMark)) = some (8000, 5, .awake) := by
  decide +kernel

theorem test_amend_moves : let t := after (exec .amend (atHost (withStation { seat with balance := 9000 })
      (.amend 230 ⟨some .background, none, none, none, none, none, false⟩)))
    t.lists = ⟨[], [], [230]⟩ ∧ (t.record 230).map Record.balance = some 8000 := by decide +kernel

theorem test_retire_drains : let t := after (exec .retire
      (atHost (withTicket { seat with held := 1 } 9) (.retire 230)))
    t.req.port = .answerReady (.draining 230 1) ∧ t.lists.seat = [] ∧
      (t.record 230).map Record.state = some (.retiring .host) := by decide +kernel

theorem test_setTier_order : (after (exec .setTierWrite
      (atHost State.reset (.setTierWrite 1 ⟨30000, 1, 200, 200, 1⟩)))).req.port =
      .answerReady (.order 1) := by decide +kernel

theorem test_fetch_leaves_one : let q : List Notice := [⟨1, .governor .crowded 90⟩, ⟨2, .governor .calm 60⟩]
    let t := after (exec .fetchNotices
      (atHost { State.reset with notices := ⟨q, true, none, true⟩ } (.fetchNotices 1)))
    t.req.port = .answerReady (.notices true [⟨1, .governor .crowded 90⟩] 1) ∧
      t.notices = ⟨[⟨2, .governor .calm 60⟩], false, some 50000, false⟩ := by decide +kernel

/-- The example frame of R185, IDENTIFY with check byte 0x15, and the same with another check byte. -/
theorem test_submit_identify : let s : State := { State.reset with req := ⟨.idle, none, true, []⟩ }
    (after (exec (.submit .whole [0x01, 0x00, 0x15] 0) s)).req =
      ⟨.working .identify, none, true, [0x80, 0, 0, 0]⟩ ∧
    (after (exec (.submit .whole [0x01, 0x00, 0x00] 0) s)).req.port =
      .answerReady .checkFailed := by decide +kernel

theorem test_collect_identity : let a := HostAnswer.identity ⟨.powerOn, 0⟩
    let s : State := { State.reset with req := ⟨.answerReady a, none, true, []⟩ }
    (after (exec (.collect .whole 11 0) s)).req =
      ⟨.idle, none, true, 0x82 :: a.frame⟩ ∧
    a.frame.take 10 = [0x18, 8, 0x06, 0x40, 3, 0x02, 0x80, 24, 1, 0] := by decide +kernel

/-- A HEARD of seven words (Table 10-12), written word by word, arrives with its last word, and is taken. -/
theorem test_heard_words : let words : List Word :=
      [0x9AB4, 0x0025, 0x0C11, 0x0A03, 0x0E07, 0x0005, 0x021C]
    let s := words.foldl (fun s w => after (exec (.assemblyWord w) s)) State.reset
    s.medium.inbound.map RawMessage.check =
      [.ok (.heard ⟨0x025C11A03E07, .data, .asleep, some 540⟩)] ∧
      s.medium.assembly = none := by decide +kernel

theorem test_stray_word : (after (exec (.strayBodyWord 0x0005) State.reset)).medium.overrun = true := by
  decide +kernel

/-! ### States that meet the hypotheses of each statement

One theorem for each statement with hypotheses, named after it; a statement of several clauses has one
conjunct for each, at a boundary value of its range. -/

theorem record_withStation (r : Record) (k : Nat) :
    (withStation r).record k = if 230 = k then some r else none := by
  have h : (withStation r).record k = (State.reset.putRecord 230 (some r)).record k :=
    State.record_congr (by simp [withStation]) k
  have n : State.reset.record k = none := by
    simp only [State.record, State.reset]; grind
  rw [h, State.record_putRecord, n]; simp

theorem ticket_reset (n : Nat) : State.reset.ticket n = ⟨0, none⟩ := by
  simp only [State.ticket, State.reset]; grind

theorem ticket_withTicket (r : Record) (left : Int) (k : Nat) :
    (withTicket r left).ticket k = if 3 = k then ⟨7, some ⟨230, 500, left⟩⟩ else ⟨0, none⟩ := by
  have h : (withTicket r left).ticket k =
      ((withStation r).putTicket 3 ⟨7, some ⟨230, 500, left⟩⟩).ticket k :=
    State.ticket_congr (by simp [withTicket]) k
  have n : (withStation r).ticket k = ⟨0, none⟩ :=
    (State.ticket_congr (s := State.reset) (by simp [withStation]) k).trans (ticket_reset k)
  rw [h, State.ticket_putTicket, n]; simp

theorem record_withTicket (r : Record) (left : Int) (k : Nat) :
    (withTicket r left).record k = if 230 = k then some r else none :=
  (State.record_congr (s := withStation r) (by simp [withTicket]) k).trans (record_withStation r k)

/-- The only ISSUED ticket of `withTicket` is the earliest. -/
theorem earliest_withTicket (r : Record) (left : Int) (m : Nat) (j : Issue)
    (h : ((withTicket r left).ticket m).issue = some j) : m = 3 ∧ j = ⟨230, 500, left⟩ := by
  rw [ticket_withTicket] at h
  split at h <;> simp_all

/-- A part held in reset by RSTn. -/
def heldByPin : State := { State.reset with pins := ⟨false, true⟩ }

/-- A part that follows the link, CSn high. -/
def linked (p : PortState) : State := { State.reset with req := ⟨p, none, true, []⟩ }

/-- A part whose Medium Engine can take this message. -/
def inboundOf (m : RawMessage) : State :=
  { State.reset with medium := { State.reset.medium with inbound := [m], engine := .running } }

theorem witness_StepOnEmptyQueue :
    (∃ s : State, s.pending = [] ∧ s.inReset = true) ∧
    (∃ s : State, s.pending = [] ∧ s.ownStep = some .opportunity) ∧
    (∃ s : State, s.pending = [] ∧ s.inReset = false ∧ s.ownStep = none) ∧
    (∃ s : State, s.HostWorking .identify) :=
  ⟨⟨heldByPin, rfl, rfl⟩, ⟨atMedium State.reset (.opportunity 0), rfl, by decide +kernel⟩,
    ⟨State.reset, rfl, rfl, by decide +kernel⟩, ⟨_, atHost_working (s := State.reset) _ rfl⟩⟩

/-- The clauses about the part's own next step, each at the moment its event comes: a window over, the
coalescing timer at 0, a message, a due ticket and a period over by the rotation, and the work of each
client that holds the table. -/
theorem witness_ownStep :
    let held (c : Client) (s : State) : State := { s with arbiter := ⟨some c, c⟩ }
    { State.reset with gov := { State.reset.gov with windowLeft := 0 } }.ownStep = some .windowEnd ∧
    { State.reset with notices := ⟨[⟨0, .governor .calm 0⟩], false, some 0, false⟩ }.ownStep =
      some .coalesceTimerExpiry ∧
    (inboundOf ⟨0xB280, []⟩).ownStep = some .messageTake ∧
    (withTicket { seat with held := 1 } 0).ownStep = some .ticketDue ∧
    { State.reset with sweeper := ⟨0, none⟩ }.ownStep = some .periodTimerExpiry ∧
    (atHost State.reset .readTickets).ownStep = some .readTickets ∧
    (held .ticketTimer { withTicket { seat with held := 1 } 0 with timerAsked := true }).ownStep =
      some .expiry ∧
    (held .sweeper { State.reset with sweeper := ⟨5, some 639⟩ }).ownStep = some .sweeperStep := by
  decide +kernel

/-- An event that is not to come, one at its moment, one with 1 µs left, one that what happens now does away
with, and one that what happens meanwhile does away with. -/
theorem witness_TimedCommandsReachTheirEvent :
    let notice : Notice := ⟨0, .governor .calm 0⟩
    let fetching : State := { State.reset with
      notices := ⟨[notice], false, some 6, false⟩
      req := ⟨.working (.fetchNotices 8), none, true, []⟩ }
    let crowding : State := { State.reset with
      notices := ⟨[notice, notice, notice], false, some 200000, false⟩
      gov := { State.reset.gov with windowUsage := 85000 } }
    let late : State := { State.reset with gov := { State.reset.gov with windowLeft := 1 } }
    State.reset.inReset = false ∧ State.reset.coalesceLeft = none ∧ State.reset.holdLeft = some 0 ∧
    late.windowLeft = some 1 ∧ (late.settled State.heldStep).windowLeft = some 1 ∧
    ((late.settled State.heldStep).elapse State.heldStep 1).windowLeft = some 0 ∧
    fetching.coalesceLeft = some 6 ∧ (fetching.settled State.heldStep).coalesceLeft = none ∧
    crowding.coalesceLeft = some 200000 ∧
    (crowding.settled State.heldStep).coalesceLeft = some 200000 ∧
    ((crowding.settled State.heldStep).elapse State.heldStep 200000).coalesceLeft = none := by
  decide +kernel

/-- A pass that holds the table at handle `h`, the period timer with `left` µs. -/
def passing (left h : Nat) : State :=
  { State.reset with arbiter := ⟨some .sweeper, .sweeper⟩, sweeper := ⟨left, some h⟩ }

/-- The same with a message of the Medium Engine waiting for the table. -/
def passingBeforeMedium (left h : Nat) : State :=
  { passing left h with
    medium := { State.reset.medium with engine := .running, work := some ⟨5, .resync⟩ } }

/-- A moment without and with an own step, by both rules, a step of a pass alone and with the Medium Engine
waiting, and a time in which nothing comes up, at its longest. -/
theorem witness_TimeGoesOn :
    State.reset.ownStep = none ∧ State.reset.heldStep = none ∧ State.reset.TimebaseLaw ∧
    (atMedium State.reset .resync).ownStep = some .resync ∧
    (atMedium State.reset .resync).heldStep = some .resync ∧
    (∃ t, exec .resync (atMedium State.reset .resync) = .next t) ∧
    (passing 5 100).ownStep = some .sweeperStep ∧ (passing 5 100).heldStep = none ∧
    (∀ c, c ≠ .sweeper → (passing 5 100).asking c = false) ∧
    (passingBeforeMedium 5 100).ownStep = some .sweeperStep ∧
    (passingBeforeMedium 5 100).asking .mediumEngine = true ∧
    100000 ≤ State.reset.gov.windowLeft ∧ 100000 ≤ State.reset.sweeper.periodLeft ∧
    State.reset.notices.timer = none ∧ ∀ k, (State.reset.ticket k).issue = none :=
  ⟨by decide +kernel, by decide +kernel, by rw [State.TimebaseLaw]; decide, by decide +kernel,
    by decide +kernel, ⟨_, rfl⟩, by decide +kernel, by decide +kernel,
    fun c h => by cases c <;> first | exact absurd rfl h | rfl, by decide +kernel, by decide +kernel,
    by decide, by decide, rfl, fun k => by rw [ticket_reset]⟩

theorem witness_CommandsWithoutTheirEvent :
    heldByPin.inReset = true ∧ State.reset.arbiter.holder ≠ some .mediumEngine ∧
    State.reset.arbiter.holder ≠ some .requestEngine ∧ (∀ r, State.reset.req.port ≠ .working r) ∧
    State.reset.arbiter.holder ≠ some .ticketTimer ∧ State.reset.arbiter.holder ≠ some .sweeper ∧
    (atMedium State.reset .resync).medium.work.isSome = true ∧ State.reset.medium.inbound = [] ∧
    (∃ s : State, 16 ≤ s.medium.answers.length) :=
  ⟨rfl, by decide, by decide, (fun _ h => nomatch h), by decide, by decide, rfl, rfl,
    ⟨{ State.reset with medium := { State.reset.medium with
      answers := List.replicate 16 ⟨0, false, .unknown⟩ } }, by decide⟩⟩

theorem witness_HardReset : State.reset.inReset = false ∧ heldByPin.inReset = true := ⟨rfl, rfl⟩

theorem witness_ResetsNoticeQueue_ResetFull : ∃ s : State, s.HostReady .resetFull :=
  ⟨_, atHost_ready (s := withTicket { seat with held := 1 } 9) _ rfl⟩

theorem witness_ResetAccounts : ∃ s : State, s.HostReady .resetAccounts :=
  ⟨_, atHost_ready (s := withStation seat) _ rfl⟩

/-- An inbound queue of 16 and one of 15. A body word with no assembly, one short of the count, and at the count with the queue at 15 and 16; a
header word with and without a body, with and without an assembly. -/
theorem witness_WriteWord :
    let assembling (body : List Word) (n : Nat) : State := { State.reset with
      medium := { State.reset.medium with
        assembly := some ⟨0xA290, body⟩, inbound := List.replicate n ⟨0xB280, []⟩ } }
    (0x7FFF : Word).getLsbD 15 = false ∧ State.reset.medium.assembly = none ∧
    declaredWords 0xA290 = 2 ∧
    (assembling [] 0).medium.assembly = some ⟨0xA290, []⟩ ∧
    (assembling [5] 15).medium.assembly = some ⟨0xA290, [5]⟩ ∧
    (assembling [5] 16).medium.inbound.length = 16 ∧ (assembling [5] 16).minFull = true ∧
    (assembling [5] 15).minFull = false ∧
    (0xA290 : Word).getLsbD 15 = true ∧ (0xB280 : Word).getLsbD 15 = true ∧
    declaredWords 0xB280 = 0 ∧ (assembling [5] 16).inReset = false := by decide

/-- The answer queue empty, with an answer read in part, and at an answer's last word. -/
theorem witness_AnswerWordRead : let a : QueuedAnswer := ⟨5, false, .known 230⟩
    State.reset.medium.answers = [] ∧ a.words.length = 2 ∧ (0 + 1 < 2) ∧ (2 ≤ 1 + 1) ∧
    (∃ s : State, s.inReset = false ∧ s.medium.answers = [a] ∧ s.medium.headRead = 0) ∧
    (∃ s : State, s.inReset = false ∧ s.medium.answers = [a, a] ∧ s.medium.headRead = 1) :=
  ⟨rfl, rfl, by decide, by decide,
    ⟨{ State.reset with medium := { State.reset.medium with
      answers := [⟨5, false, .known 230⟩] } }, rfl, rfl, rfl⟩,
    ⟨{ State.reset with medium := { State.reset.medium with
      answers := [⟨5, false, .known 230⟩, ⟨5, false, .known 230⟩], headRead := 1 } }, rfl, rfl, rfl⟩⟩

/-- One message in the queue, and 16 of them. -/
theorem witness_MessageTake :
    let full : State := { State.reset with
      medium := { State.reset.medium with inbound := List.replicate 16 ⟨0xB280, []⟩ } }
    let demand : RawMessage := ⟨0xA290, [639, 1023]⟩
    let long : RawMessage := ⟨0xB288, [0]⟩
    let await (m : RawMessage) : State := { State.reset with
      medium := { State.reset.medium with inbound := [m] } }
    full.medium.work = none ∧ full.medium.answers.length < 16 ∧ full.medium.inbound.length = 16 ∧
    full.inReset = false ∧ full.minFull = true ∧
    (await demand).canTake = true ∧ (await demand).medium.engine = .awaitResync ∧
    demand.kind ≠ 6 ∧ (inboundOf long).canTake = true ∧ long.check = .error .length ∧
    demand.check = .ok (.demand 639 1023) ∧
    RawMessage.check ⟨0xAA90, [0, 0]⟩ = .ok (.quiet 0) ∧
    RawMessage.check ⟨0xAA90, [1, 0x7FFF]⟩ = .ok (.quiet 65535) ∧
    RawMessage.check ⟨0xB280, []⟩ = .ok .resync ∧ RawMessage.kind ⟨0xB280, []⟩ = 6 ∧
    (inboundOf demand).medium.engine = .running ∧ (inboundOf demand).inReset = false := by
  decide +kernel

/-- A kind the part does not know, a message cut short, one with a spare bit, one that is an OPPORTUNITY, and
one of an offered duration out of range. -/
theorem witness_MessagesChecked :
    (∀ w ∈ ([0x7FFF] : List Word), w.getLsbD 15 = false) ∧
    messageFields (RawMessage.kind ⟨0xF800, []⟩) false false = none ∧
    messageFields (RawMessage.kind ⟨0x8888, []⟩) false false = some [0x7FFF] ∧
    ([] : List Word).length ≠ [(0x7FFF : Word)].length ∧ declaredWords 0x8888 = 1 ∧
    ¬ (RawMessage.SpareZero ⟨0x8889, [0]⟩ [0x7FFF]) ∧
    (RawMessage.SpareZero ⟨0x8888, [100]⟩ [0x7FFF]) ∧
    (MessageBody.opportunity 100).Form 1 false false [100] ∧
    ∀ b : MessageBody, ¬ b.Form 1 false false [50] := by
  refine ⟨by simp, by decide, by decide, by decide, by decide, fun h => absurd h.1 (by decide),
    ⟨by decide, ?_⟩, ⟨rfl, by decide, by decide, rfl⟩, ?_⟩
  · intro i w f hw hf
    match i with
    | 0 => simp at hw hf; subst hw hf; decide
    | _ + 1 => simp at hw
  · intro b h
    cases b <;> simp only [MessageBody.Form] at h
    · rename_i d
      obtain ⟨-, hd, hm, hb⟩ := h
      simp only [List.cons.injEq, and_true] at hb
      have := congrArg BitVec.toNat hb
      simp at this; omega
    all_goals exact absurd h.1 (by decide)

theorem witness_OpportunityHoldOrNoTicket :
    (∃ s : State, s.MediumReady 5 (.opportunity 0) ∧ 0 < s.gov.hold) ∧
    (∃ s : State, s.MediumReady 5 (.opportunity 32767) ∧ s.gov.hold = 0 ∧ s.pool = []) :=
  ⟨⟨_, atMedium_ready (s := { State.reset with gov := { State.reset.gov with hold := 1 } }) _ rfl,
    by decide⟩, ⟨_, atMedium_ready (s := { State.reset with pool := [] }) _ rfl, rfl, rfl⟩⟩

/-- Each of the six rows of Table 5-3, the share at its edge. -/
theorem witness_ClassOrder :
    let at_ (l : Load) (usage skip : Nat) : State := { State.reset with
      gov := { State.reset.gov with load := l, podiumUsage := usage }
      lists := ⟨[], [], [4]⟩
      skip := skip }
    (at_ .crowded 39999 16).classOrder (at_ .crowded 39999 16).readings = [.podium, .seat] ∧
    (at_ .crowded 40000 16).classOrder (at_ .crowded 40000 16).readings = [.seat, .podium] ∧
    (at_ .calm 39999 16).classOrder (at_ .calm 39999 16).readings = [.background, .podium, .seat] ∧
    (at_ .calm 40000 16).classOrder (at_ .calm 40000 16).readings = [.background, .seat, .podium] ∧
    (at_ .calm 39999 15).classOrder (at_ .calm 39999 15).readings = [.podium, .seat, .background] ∧
    (at_ .calm 40000 15).classOrder (at_ .calm 40000 15).readings = [.seat, .podium, .background] := by
  decide +kernel

theorem witness_OpportunityGrantsHead : let s := atMedium (withStation seat) (.opportunity 100)
    s.MediumReady 5 (.opportunity 100) ∧ s.gov.hold = 0 ∧ s.pool = 0 :: (List.range 24).tail ∧
    s.classOrder s.readings = [.podium] ++ .seat :: [.background] ∧ s.lists.get .podium = [] ∧
    s.lists.get .seat = [230] ∧ s.record 230 = some seat ∧
    seat.held < (s.classSettings seat.cls).ticketCap ∧ 0 < seat.balance ∧
    s.settings.tierOf seat.rate = some (0, ⟨30000, 500, 4000, 2000, 32⟩) :=
  ⟨atMedium_ready _ rfl, rfl, by decide +kernel, by decide +kernel, by decide +kernel,
    by decide +kernel, by decide +kernel, by decide +kernel, by decide, by decide +kernel⟩

/-- Ready for an OPPORTUNITY with no eligible record (NONE), with one in debt (DEFER) and with one to be
granted. -/
theorem pool_reset : State.reset.PoolLaw :=
  ⟨by decide, fun n => by
    rw [ticket_reset, show State.reset.pool = List.range 24 from rfl]; simp [Ticket.issued]⟩

theorem tier_reset (k : Nat) : State.reset.settings.tier k =
    if k = 0 then some ⟨30000, 500, 4000, 2000, 32⟩ else none := by
  rcases Nat.lt_or_ge k 8 with h | h
  · interval_cases k <;> rfl
  · simp only [Settings.tier, State.reset, Settings.reset]
    have : TierEntry.reset[k]? = none := by simp [h]
    rw [this]; simp; omega

theorem tierLaw_reset : State.reset.settings.TierLaw where
  first := by simp [tier_reset]
  contiguous := by simp [tier_reset]
  rising := by simp [tier_reset]
  inRange := by
    intro k e h
    rw [tier_reset] at h
    split at h
    · cases h; decide
    · simp at h

theorem listLaw_atMedium {r : Record} (he : r.eligible = true) (hc : r.cls = .seat) (b : MessageBody) :
    (atMedium (withStation r) b).ListLaw := by
  have rec_s : ∀ k, (atMedium (withStation r) b).record k = if 230 = k then some r else none := fun k =>
    (State.record_congr (s := withStation r) rfl k).trans (record_withStation r k)
  have hl : (atMedium (withStation r) b).lists = ⟨[], [230], []⟩ := by
    simp [atMedium, withStation, he, hc]; rfl
  refine ⟨fun c => ?_, fun h c => ?_⟩
  · rw [hl]; cases c <;> decide
  · rw [hl, rec_s]
    cases c <;> (simp [ClassMap.get]; try grind)

/-- With every list empty; two visits and no grant; a grant at the first visit; a record at its ticket
cap. -/
theorem witness_OpportunityFrame :
    (((atMedium State.reset (.opportunity 0)).serve 0).2 = .nothing ∧
    ((atMedium (withStation { seat with balance := -32768 }) (.opportunity 0)).serve 0).2 = .defer 2 ∧
    ((atMedium (withStation seat) (.opportunity 0)).serve 0).2 =
      .grant 0 1 230 0x025C11A03E07 600 9 ∧
    ((atMedium (withStation { seat with held := 2 }) (.opportunity 0)).serve 0).2 = .defer 2) ∧
    ∀ r ∈ [seat, { seat with balance := -32768 }, { seat with held := 2 }],
      let s := atMedium (withStation r) (.opportunity 0)
      s.MediumReady 5 (.opportunity 0) ∧ s.gov.hold = 0 ∧ s.pool ≠ [] ∧ s.ListLaw ∧ s.settings.TierLaw := by
  refine ⟨by decide +kernel, fun r hr => ⟨atMedium_ready _ rfl, rfl, by simp [atMedium, withStation, State.reset],
    listLaw_atMedium ?_ ?_ _, tierLaw_reset⟩⟩ <;>
  · simp at hr
    rcases hr with rfl | rfl | rfl <;> rfl

theorem witness_GrantLaw : ∃ s t : State, s.MediumReady 5 (.opportunity 100) ∧ s.ListLaw ∧ s.PoolLaw ∧
    s.TierTableLaw ∧ (∀ k r b, s.record k = some r → r.burstOverride = some b → 200 ≤ b) ∧
    exec .opportunity s = .next t ∧
    MediumAnswered s t 5 (.grant 0 1 230 0x025C11A03E07 100 9) := by
  let s := atMedium (withStation seat) (.opportunity 100)
  have ready : s.MediumReady 5 (.opportunity 100) := atMedium_ready _ rfl
  have rec_s : ∀ k, s.record k = if 230 = k then some seat else none := fun k =>
    (State.record_congr (s := withStation seat) rfl k).trans (record_withStation seat k)
  refine ⟨s, (s.serve 100).1.endMedium 5 (s.serve 100).2, ready, listLaw_atMedium rfl rfl _, ?_, ?_, ?_,
    ?_, ?_⟩
  · have := pool_reset
    exact ⟨this.nodup, fun n => (this.exact n).trans (by
      rw [State.ticket_congr (s := State.reset) (t := s) rfl])⟩
  · exact ⟨tierLaw_reset, fun k e h => nomatch h⟩
  · intro k r b hr hb
    rw [rec_s] at hr
    split at hr <;> simp_all
    cases hr; simp [seat] at hb
  · simp only [exec, execOpportunity, State.inMediumTransaction_ready ready, Option.getD]
  · have ha : (s.serve 100).2 = .grant 0 1 230 0x025C11A03E07 100 9 := by decide +kernel
    have hm : (s.serve 100).1.medium = s.medium := by decide +kernel
    rw [ha]
    have := (s.serve 100).1.endMedium_medium 5 (.grant 0 1 230 0x025C11A03E07 100 9)
    rw [MediumAnswered, hm] at this
    exact this

theorem witness_CompleteStale :
    (∃ s : State, s.MediumReady 5 (.complete ⟨3, 7, 1, 0, 0, none, none⟩) ∧
      (s.ticket 3).issue = none) ∧
    (∃ s : State, s.MediumReady 5 (.complete ⟨3, 6, 1, 0, 0, none, none⟩) ∧ (s.ticket 3).seq ≠ 6) :=
  ⟨⟨_, atMedium_ready (s := State.reset) _ rfl, by decide +kernel⟩,
    ⟨_, atMedium_ready (s := withTicket { seat with held := 1 } 9) _ rfl, by decide +kernel⟩⟩

/-- A living holder with one ticket, and a RETIRING holder with two. -/
theorem witness_CompleteDone :
    let c : Completion := ⟨3, 7, 32767, 64, 64, some 0, some 1023⟩
    let r2 : Record := { seat with state := .retiring .host, held := 2 }
    (∃ s : State, s.MediumReady 5 (.complete c) ∧ s.ticket 3 = ⟨7, some ⟨230, 500, 9⟩⟩ ∧
      s.record 230 = some { seat with held := 1 }) ∧
    (∃ s : State, s.MediumReady 5 (.complete c) ∧ s.ticket 3 = ⟨7, some ⟨230, 500, 9⟩⟩ ∧
      s.record 230 = some r2 ∧ 1 < r2.held) :=
  ⟨⟨_, atMedium_ready (s := withTicket { seat with held := 1 } 9) _ rfl,
      by decide +kernel, by decide +kernel⟩,
    ⟨_, atMedium_ready (s := withTicket { seat with state := .retiring .host, held := 2 } 9) _ rfl,
      by decide +kernel, by decide +kernel, by decide⟩⟩

/-- The last ticket of a RETIRING holder. -/
theorem witness_CompleteDone_drain :
    let r : Record := { seat with state := .retiring .aged, held := 1 }
    ∃ s : State, s.MediumReady 5 (.complete ⟨3, 7, 0, 0, 0, none, none⟩) ∧
      s.ticket 3 = ⟨7, some ⟨230, 500, 9⟩⟩ ∧ s.record 230 = some r ∧ r.held = 1 :=
  ⟨_, atMedium_ready (s := withTicket { seat with state := .retiring .aged, held := 1 } 9) _ rfl,
    by decide +kernel, by decide +kernel, rfl⟩

theorem witness_HeardKnown : ∃ s : State,
    s.MediumReady 5 (.heard ⟨0x025C11A03E07, .ctrl, .asleep, some 30000⟩) ∧
    s.indexLookup 0x025C11A03E07 = some 230 ∧ s.record 230 = some seat :=
  ⟨_, atMedium_ready (s := withStation seat) _ rfl, by decide +kernel, by decide +kernel⟩

/-- A switch ON and the filter holding 8 others; a switch OFF; a switch ON and the address in the filter. -/
theorem witness_HeardUnknown :
    let full : State := { State.reset with strangers := [1, 2, 3, 4, 5, 6, 7, 8] }
    full.indexLookup 9 = none ∧ full.indexLookup 8 = none ∧
    full.settings.presence.mgmtSwitch = true ∧ full.settings.presence.dataSwitch = false ∧
    9 ∉ full.strangers ∧ 8 ∈ full.strangers ∧ full.inReset = false := by decide +kernel

theorem witness_Demand :
    (∃ s : State, s.MediumReady 5 (.demand 639 1023) ∧ s.record 639 = none) ∧
    (∃ (s : State) (r : Record), s.MediumReady 5 (.demand 230 0) ∧ s.record 230 = some r ∧
      r.living = false) ∧
    (∃ s : State, s.MediumReady 5 (.demand 230 0) ∧ s.record 230 = some seat ∧ seat.living = true) :=
  ⟨⟨_, atMedium_ready (s := State.reset) _ rfl, by decide +kernel⟩,
    ⟨_, { seat with state := .retiring .host, held := 1 },
      atMedium_ready (s := withTicket { seat with state := .retiring .host, held := 1 } 9) _ rfl,
      by decide +kernel, rfl⟩,
    ⟨_, atMedium_ready (s := withStation seat) _ rfl, by decide +kernel, rfl⟩⟩

theorem witness_Resync_HoldRequest : ∃ s : State, s.MediumReady 5 .resync :=
  ⟨_, atMedium_ready (s := withTicket { seat with held := 1 } 9) _ rfl⟩

theorem witness_TicketDue :
    (∀ n, (State.reset.ticket n).issue = none) ∧
    (∃ (s : State) (i : Issue), s.inReset = false ∧ (s.ticket 3).issue = some i ∧ i.left = 0 ∧
      s.timerAsked = false ∧ ∀ m j, (s.ticket m).issue = some j → i.left ≤ j.left) ∧
    (∃ (s : State) (i : Issue), s.inReset = false ∧ (s.ticket 3).issue = some i ∧ i.left = 0 ∧
      s.timerAsked = true) :=
  ⟨fun n => by rw [ticket_reset],
    ⟨withTicket { seat with held := 1 } 0, ⟨230, 500, 0⟩, rfl, by rw [ticket_withTicket]; rfl, rfl, rfl,
      fun m j h => by rw [(earliest_withTicket _ _ m j h).2]⟩,
    ⟨{ withTicket { seat with held := 1 } 0 with timerAsked := true }, ⟨230, 500, 0⟩, rfl,
      (State.ticket_congr (s := withTicket { seat with held := 1 } 0) rfl 3) ▸ by
        rw [ticket_withTicket]; rfl, rfl, rfl⟩⟩

/-- The Ticket Timer holding the table with no ticket due, with one due of a living record, and with the last
one of a RETIRING record. -/
theorem witness_Expiry :
    let timer (s : State) : State := { s with arbiter := ⟨some .ticketTimer, .ticketTimer⟩, timerAsked := true }
    let r2 : Record := { seat with state := .retiring .host, held := 1 }
    (∀ n i, ((timer (withTicket seat 1)).ticket n).issue = some i → 0 < i.left) ∧
    (∃ i : Issue, ((timer (withTicket seat 0)).ticket 3).issue = some i ∧ i.left ≤ 0 ∧
      (∀ m j, ((timer (withTicket seat 0)).ticket m).issue = some j →
        i.left < j.left ∨ i.left = j.left ∧ 3 ≤ m) ∧
      (timer (withTicket seat 0)).record i.holder = some seat ∧ seat.living = true) ∧
    (timer (withTicket r2 0)).record 230 = some r2 ∧ r2.held = 1 := by
  refine ⟨?_, ⟨⟨230, 500, 0⟩, ?_, by decide, ?_, ?_, rfl⟩, ?_, rfl⟩
  · intro n i h
    rw [(earliest_withTicket seat 1 n i h).2]; decide
  · exact congrArg Ticket.issue (ticket_withTicket seat 0 3)
  · intro m j h
    obtain ⟨rfl, rfl⟩ := earliest_withTicket seat 0 m j h
    exact Or.inr ⟨rfl, le_rfl⟩
  · exact record_withTicket seat 0 230
  · exact record_withTicket _ 0 230

/-- The period over with no pass and with one, and a pass that runs with 1 µs and with a whole window left to
the period. -/
theorem witness_PeriodTimerExpiry :
    (∃ s : State, s.inReset = false ∧ s.sweeper = ⟨0, none⟩) ∧
    (∃ s : State, s.inReset = false ∧ s.sweeper = ⟨0, some 639⟩) ∧
    ∀ n ∈ [1, 100000], (passing n 100).inReset = false ∧ (passing n 100).sweeper.pass = some 100 ∧
      (passing n 100).heldStep = none ∧ (passing n 100).TimebaseLaw ∧
      0 < (passing n 100).sweeper.periodLeft ∧
      (passing n 100).sweeper.periodLeft ≤ (passing n 100).gov.windowLeft ∧
      (passing n 100).notices.timer = none ∧ ∀ k, ((passing n 100).ticket k).issue = none := by
  refine ⟨⟨{ State.reset with sweeper := ⟨0, none⟩ }, rfl, rfl⟩,
    ⟨{ State.reset with sweeper := ⟨0, some 639⟩ }, rfl, rfl⟩, fun n hn => ?_⟩
  have tickets : ∀ k, ((passing n 100).ticket k).issue = none := fun k =>
    congrArg Ticket.issue (ticket_reset k)
  simp at hn
  rcases hn with rfl | rfl <;>
    exact ⟨rfl, rfl, by decide +kernel, by rw [State.TimebaseLaw]; decide, by decide, by decide, rfl, tickets⟩

/-- Table 3-9 at 2,000 and 3,000 ms: the expiry finds pass A within its steps and begins none, the steps go on
one by one with SWEEPER_STEP, and the expiry after the last one begins pass B at handle 0. -/
theorem test_expiry_within_a_pass :
    let a := after (exec .periodTimerExpiry (passing 1000000 100))
    let ended := after (exec .sweeperStep { a with sweeper := ⟨700000, some 639⟩ })
    a.sweeper = ⟨1000000, some 100⟩ ∧ a.time.ms = 1000 ∧ a.arbiter.holder = some .sweeper ∧
    (after (exec .sweeperStep a)).sweeper = ⟨1000000, some 101⟩ ∧
    ended.sweeper = ⟨700000, none⟩ ∧ ended.arbiter.holder = none ∧
    (after (exec .periodTimerExpiry ended)).sweeper = ⟨1000000, some 0⟩ := by decide +kernel

/-- The Medium Engine waits for the table: the step of handle 100 ends, its transaction is served, and the
pass holds the table again, now at handle 101, at the expiry. -/
theorem test_expiry_after_a_waiting_message :
    let t := after (exec .periodTimerExpiry (passingBeforeMedium 1000000 100))
    t.sweeper = ⟨1000000, some 101⟩ ∧ t.arbiter.holder = some .sweeper ∧ t.medium.work = none ∧
      t.medium.answers.length = 1 := by decide +kernel

/-- The Sweeper at handle 639 and at a FREE record, at a record of linger 0, 2 and 1, and the ageing record of
a class with auto-retire OFF, ON with no ticket held, and ON with one. -/
theorem witness_SweeperStep :
    let at_ (s : State) (h : Nat) : State := { s with
      arbiter := ⟨some .sweeper, .sweeper⟩, sweeper := ⟨5, some h⟩ }
    (at_ State.reset 639).record 639 = none ∧ (at_ State.reset 639).inReset = false ∧
    (at_ (withStation { seat with linger := 0 }) 230).record 230 = some { seat with linger := 0 } ∧
    (at_ (withStation { seat with linger := 2 }) 230).record 230 = some { seat with linger := 2 } ∧
    (at_ (withStation { seat with linger := 1 }) 230).record 230 = some { seat with linger := 1 } ∧
    (State.reset.classSettings .podium).autoRetire = false ∧
    (State.reset.classSettings .seat).autoRetire = true ∧
    (at_ (withTicket { seat with linger := 1, held := 1 } 9) 230).record 230 =
      some { seat with linger := 1, held := 1 } := by decide +kernel

/-- The rows of Table 7-3 at their edges: 85 % and 84 % from CALM, and countdown 2 and 1 at 70 % and 69 % from
CROWDED; and mode OFF. -/
theorem witness_WindowEnd :
    min 255 (100 * 85000 / (100 * 1000)) = 85 ∧ min 255 (100 * 84999 / (100 * 1000)) = 84 ∧
    min 255 (100 * 70000 / (100 * 1000)) = 70 ∧ min 255 (100 * 69999 / (100 * 1000)) = 69 ∧
    (∃ s : State, s.inReset = false ∧ s.gov.windowLeft = 0 ∧ s.gov.load = .crowded ∧ s.gov.countdown = 2) ∧
    (∃ s : State, s.inReset = false ∧ s.gov.windowLeft = 0 ∧ s.settings.governor.mode = false) :=
  ⟨by decide, by decide, by decide, by decide,
    ⟨{ State.reset with gov := { State.reset.gov with load := .crowded, countdown := 2, windowLeft := 0 } },
      rfl, rfl, rfl, rfl⟩,
    ⟨{ State.reset with
      gov := { State.reset.gov with windowLeft := 0 }
      settings := { State.reset.settings with governor := ⟨false, 100, 85, 70, 20⟩ } }, rfl, rfl, rfl⟩⟩

/-- The hold and the timer over, and each with a whole window left to it; the timer beside a pass that runs. -/
theorem witness_HoldAndCoalesceExpiry : State.reset.inReset = false ∧ State.reset.notices.timer = none ∧
    State.reset.gov.hold = 0 ∧
    (∃ s : State, s.inReset = false ∧ s.ownStep = none ∧ s.gov.hold = 100000 ∧
      s.gov.hold ≤ s.gov.windowLeft ∧ s.gov.hold ≤ s.sweeper.periodLeft ∧ s.notices.timer = none ∧
      ∀ k, (s.ticket k).issue = none) ∧
    (∃ s : State, s.inReset = false ∧ s.notices.timer = some 100000 ∧ s.heldStep = none ∧
      100000 ≤ s.gov.windowLeft ∧ 100000 ≤ s.sweeper.periodLeft ∧ ∀ k, (s.ticket k).issue = none) ∧
    (∃ s : State, s.inReset = false ∧ s.notices.timer = some 0 ∧ s.notices.queue ≠ []) :=
  ⟨rfl, rfl, rfl, ⟨{ State.reset with gov := { State.reset.gov with hold := 100000 } },
      rfl, by decide +kernel, rfl, by decide, by decide, rfl,
      fun k => congrArg Ticket.issue (ticket_reset k)⟩,
    ⟨{ passing 200000 100 with notices := ⟨[⟨0, .governor .calm 0⟩], false, some 100000, false⟩ },
      rfl, rfl, by decide +kernel, by decide, by decide, fun k => congrArg Ticket.issue (ticket_reset k)⟩,
    ⟨{ State.reset with notices := ⟨[⟨0, .governor .calm 0⟩], false, some 0, false⟩ },
      rfl, rfl, by decide⟩⟩

theorem witness_LinkFooting : State.reset.inReset = false ∧ State.reset.req.csn = none ∧
    State.reset.req.csnSeen = false ∧ (linked .idle).req.csnSeen = true := ⟨rfl, rfl, rfl, rfl⟩

/-- A SUBMIT to a WORKING port, one cut short, one of a wrong check byte, one of an unknown code, one of a body
refused; each with CSn's fall and rise at once, and one with its rise alone. -/
theorem witness_Submit :
    EndsLatched (linked (.working .identify)) .whole .working ∧
    EndsLatched { linked .idle with req := ⟨.idle, some .idle, true, []⟩ } .rise .idle ∧
    EndsLatched (linked .idle) .whole .idle ∧ ([0x01] : List Byte).length < 2 ∧
    (¬ ∃ code body, SoundFrame [0x01, 0x00, 0x00] code body) ∧
    SoundFrame [0x00, 0x00, 0x00] 0x00 [] ∧ parseRequest Settings.reset 0x00 [] = none ∧
    SoundFrame [0x01, 0x01, 0x00, crc8 [0x01, 0x01, 0x00]] 0x01 [0x00] ∧
    parseRequest Settings.reset 0x01 [0x00] = some none := by
  refine ⟨Or.inr ⟨rfl, rfl, rfl, rfl⟩, Or.inl ⟨rfl, rfl⟩, Or.inr ⟨rfl, rfl, rfl, rfl⟩, by decide, ?_,
    ⟨0, by decide, rfl, by decide +kernel⟩, rfl, ⟨1, by decide, rfl, by decide +kernel⟩, by decide +kernel⟩
  rintro ⟨code, body, len, _, hl, h⟩
  simp only [List.cons.injEq] at h
  obtain ⟨rfl, rfl, h⟩ := h
  obtain rfl : body = [] := List.eq_nil_of_length_eq_zero hl
  exact absurd h (by decide +kernel)

theorem witness_Submit_taken : EndsLatched (linked .idle) .whole .idle ∧ (linked .idle).req.port = .idle ∧
    SoundFrame [0x01, 0x00, 0x15] 0x01 [] ∧
    parseRequest Settings.reset 0x01 [] = some (some .identify) ∧
    SoundFrame [0x08, 0x00, crc8 [0x08, 0x00]] 0x08 [] ∧
    parseRequest Settings.reset 0x08 [] = some (some .readTickets) ∧
    Request.identify.usesTable = false ∧ Request.readTickets.usesTable = true :=
  ⟨Or.inr ⟨rfl, rfl, rfl, rfl⟩, rfl, ⟨0, by decide, rfl, by decide +kernel⟩, by decide +kernel,
    ⟨0, by decide, rfl, by decide +kernel⟩, by decide +kernel, rfl, rfl⟩

/-- Admissions at both ends of every range, items in another order than the table's, and a body that is no
request. -/
theorem witness_RequestsDecoded :
    let low : Admission := ⟨0, .podium, 1, some 0, some 1, some 200⟩
    let high : Admission := ⟨0xFFFFFFFFFFFF, .background, 8, none, some 65535, some 8000⟩
    (Request.admitStation low).Form Settings.reset 0x02 (admissionBody low) ∧
    (Request.admitStation high).Form Settings.reset 0x02 (admissionBody high) ∧
    (Request.setNotice ⟨some 32, some 1⟩).Form Settings.reset 0x15 [2, 0, 1, 1, 32] ∧
    0x01 ∈ requestCodes ∧ (∀ r : Request, ¬ r.Form Settings.reset 0x01 [0]) ∧ 0x09 ∉ requestCodes := by
  refine ⟨⟨rfl, ⟨by decide, ?_, ?_⟩, rfl⟩, ⟨rfl, ⟨by decide, ?_, ?_⟩, rfl⟩,
    ⟨rfl, [⟨⟨2, 2, 2, 1, 1000⟩, 1⟩, ⟨⟨1, 1, 1, 1, 32⟩, 32⟩], ⟨by decide, by decide⟩, by decide, by decide,
      by decide⟩, by decide, ?_, by decide⟩
  · rintro n ⟨⟩; decide
  · rintro n ⟨⟩; decide
  · rintro n ⟨⟩; decide
  · rintro n ⟨⟩; decide
  · intro r
    cases r <;> simp [Request.Form]

theorem witness_Collect_StatusOnly :
    EndsLatched (linked (.answerReady .done)) .whole .answerReady ∧
    EndsLatched (linked .idle) .whole .idle ∧
    EndsLatched (linked (.working .identify)) .whole .working ∧ HostAnswer.done.frame.length = 3 :=
  ⟨Or.inr ⟨rfl, rfl, rfl, rfl⟩, Or.inr ⟨rfl, rfl, rfl, rfl⟩, Or.inr ⟨rfl, rfl, rfl, rfl⟩, rfl⟩

theorem witness_IndexLookup : (withStation seat).IndexLaw := by
  intro h k r q hr hq _ _ _
  rw [record_withStation] at hr hq
  split at hr <;> split at hq <;> simp_all

/-- Every record taken but the one at a handle. -/
def allBut (h : Nat) (r : Record) : State :=
  { State.reset with records := (Vector.replicate 640 (some r)).setIfInBounds h none }

theorem record_allBut (h k : Nat) (r : Record) (hk : k < 640) :
    (allBut h r).record k = if h = k then none else some r := by
  simp only [State.record, allBut]; grind

/-- The lowest FREE handle 0 and 639; an address in the index; a class at its capacity; no handle FREE. -/
theorem witness_Admit :
    let a : Admission := ⟨9, .podium, 1, none, none, none⟩
    (State.reset.indexLookup 9 = none ∧ State.reset.occupancy .podium < 16 ∧
      State.reset.record 0 = none) ∧
    ((allBut 639 seat).indexLookup 9 = none ∧ (allBut 639 seat).occupancy .podium < 16 ∧
      (allBut 639 seat).record 639 = none ∧ ∀ k < 639, (allBut 639 seat).record k ≠ none) ∧
    (withStation seat).indexLookup 0x025C11A03E07 = some 230 ∧
    (allBut 640 { seat with cls := .podium }).occupancy .podium ≥ 16 ∧
    (∀ h < 640, (allBut 640 seat).record h ≠ none) ∧
    (atHost State.reset (.admitStation a)).HostReady (.admitStation a) := by
  refine ⟨by decide +kernel, ⟨by decide +kernel, by decide +kernel, by decide +kernel, ?_⟩,
    by decide +kernel, by decide +kernel, ?_, atHost_ready _ rfl⟩
  · intro k hk; rw [record_allBut _ _ _ (by omega)]; simp; omega
  · intro h hh; rw [record_allBut _ _ _ hh]; simp; omega

/-- A FREE record; a RETIRING one; another class at its capacity; an item naming the record's own class. -/
theorem witness_Amend :
    let none_ : Amendment := ⟨none, none, none, none, none, none, false⟩
    let full : State := { withStation seat with settings := { Settings.reset with
      classes := { Settings.reset.classes with podium := ⟨0, 7200, false, 4, 8000, 32767⟩ } } }
    State.reset.record 639 = none ∧
    (withStation { seat with state := .retiring .host, held := 1 }).record 230 =
      some { seat with state := .retiring .host, held := 1 } ∧
    full.record 230 = some seat ∧ (full.classSettings .podium).capacity ≤ full.occupancy .podium ∧
    (withStation seat).record 230 = some seat ∧ seat.living = true ∧ none_.cls = none := by
  decide +kernel

theorem witness_Amend_moves :
    let a : Amendment := ⟨some .podium, some 8, some none, none, some (some 200), some true, true⟩
    let s : State := atHost (withStation seat) (.amend 230 a)
    s.record 230 = some seat ∧ s.occupancy .podium < (s.classSettings .podium).capacity ∧
    230 ∉ s.lists.get .podium ∧ Cls.podium ≠ seat.cls := by decide +kernel

theorem witness_Retire :
    (atHost State.reset (.retire 639)).HostReady (.retire 639) ∧ State.reset.record 639 = none ∧
    (withStation { seat with state := .retiring .host, held := 1 }).record 230 =
      some { seat with state := .retiring .host, held := 1 } ∧
    (withStation seat).record 230 = some seat ∧ seat.living = true ∧ seat.held = 0 ∧
    (withTicket { seat with held := 1 } 9).record 230 = some { seat with held := 1 } :=
  ⟨atHost_ready _ rfl, by decide +kernel, by decide +kernel, by decide +kernel, rfl, rfl,
    by decide +kernel⟩

theorem witness_Lookup : (atHost State.reset (.lookup 9)).HostReady (.lookup 9) ∧
    State.reset.indexLookup 9 = none ∧ (withStation seat).indexLookup 0x025C11A03E07 = some 230 ∧
    ([1, 2, 3, 4, 5] : List Byte).length ≠ 6 ∧
    SoundFrame [0x05, 0x01, 0x00, crc8 [0x05, 0x01, 0x00]] 0x05 [0x00] :=
  ⟨atHost_ready _ rfl, by decide +kernel, by decide +kernel, by decide, ⟨1, by decide, rfl, by decide +kernel⟩⟩

theorem witness_ListAndReadTickets :
    (atHost (withStation seat) (.list .seat 0 16)).HostReady (.list .seat 0 16) ∧
    (atHost (withStation seat) (.list .seat 639 1)).HostReady (.list .seat 639 1) ∧
    (atHost State.reset .readTickets).HostReady .readTickets :=
  ⟨atHost_ready _ rfl, atHost_ready _ rfl, atHost_ready _ rfl⟩

/-- A FREE record; an unlisted record; the tail of a list, and one before it. -/
theorem witness_ReadRecord :
    (atHost State.reset (.readRecord 639 true)).HostReady (.readRecord 639 true) ∧
    State.reset.record 639 = none ∧
    (withStation seat).record 230 = some seat ∧
    (withStation seat).settings.tierOf 540 = some (0, ⟨30000, 500, 4000, 2000, 32⟩) ∧
    230 ∉ (withStation { seat with backlog := 0 }).lists.get .seat ∧
    (withStation seat).lists.get .seat = [] ++ [230] ∧
    (∃ s : State, s.lists.get .seat = [1] ++ 230 :: 5 :: [6]) :=
  ⟨atHost_ready _ rfl, by decide +kernel, by decide +kernel, by decide +kernel, by decide +kernel,
    by decide +kernel, ⟨{ State.reset with lists := ⟨[], [1, 230, 5, 6], []⟩ }, rfl⟩⟩

/-- A capacity one below the occupancy, and one at it with a lowered balance cap. -/
theorem witness_SetClass :
    (withStation seat).occupancy .seat = 1 ∧ (0 : Nat) < (withStation seat).occupancy .seat ∧
    (withStation seat).occupancy .seat ≤ 1 ∧
    (atHost (withStation seat) (.setClass .seat ⟨some 1, none, none, none, some 0, some 1000⟩)).HostReady
      (.setClass .seat ⟨some 1, none, none, none, some 0, some 1000⟩) :=
  ⟨by decide +kernel, by decide +kernel, by decide +kernel, atHost_ready _ rfl⟩

theorem witness_TierOfRate : State.reset.settings.TierLaw ∧
    State.reset.settings.tierOf 30000 = some (0, ⟨30000, 500, 4000, 2000, 32⟩) :=
  ⟨tierLaw_reset, by decide +kernel⟩

/-- WRITE to entry 2 with entry 1 invalid, to entry 1 at the limit of entry 0, to entry 0 accepted; INVALIDATE
of entry 7 that is invalid, of entry 0, and of entry 1 that is the highest. -/
theorem witness_SetTier :
    let e : TierEntry := ⟨30000, 1, 200, 200, 1⟩
    let two : State := { State.reset with settings := { Settings.reset with
      tiers := #v[some ⟨60, 1, 200, 200, 1⟩, some e, none, none, none, none, none, none] } }
    State.reset.settings.tier 1 = none ∧ State.reset.settings.tier 7 = none ∧
    (State.reset.settings.tier 0).map TierEntry.rateLimit = some 30000 ∧
    two.settings.tier 1 = some e ∧ two.settings.tier 2 = none ∧
    (atHost two (.setTierWrite 0 e)).HostReady (.setTierWrite 0 e) ∧
    (atHost two (.setTierInvalidate 1)).HostReady (.setTierInvalidate 1) :=
  ⟨rfl, rfl, rfl, rfl, rfl, atHost_ready _ rfl, atHost_ready _ rfl⟩

theorem witness_SettingsGroups :
    (atHost State.reset (.setScheduler ⟨some 255, some 0, none⟩)).HostReady
      (.setScheduler ⟨some 255, some 0, none⟩) ∧
    (atHost State.reset (.setPresence ⟨some 100, none, some true, none⟩)).HostWorking
      (.setPresence ⟨some 100, none, some true, none⟩) ∧
    (∃ s : State, s.HostWorking (.setNotice ⟨some 1, none⟩) ∧ s.notices.attn = false ∧
      1 ≤ s.notices.queue.length) ∧
    (∃ s : State, s.HostWorking (.setNotice ⟨some 32, some 1⟩) ∧ s.notices.queue.length < 32) :=
  ⟨atHost_ready _ rfl, atHost_working _ rfl,
    ⟨_, atHost_working (s := { State.reset with
      notices := ⟨[⟨0, .governor .calm 0⟩], false, some 9, false⟩ }) _ rfl, rfl, by decide⟩,
    ⟨_, atHost_working (s := State.reset) _ rfl, by decide⟩⟩

theorem witness_SetGovernor :
    (∃ s : State, s.HostWorking (.setGovernor ⟨none, none, none, none, none⟩)) ∧
    (∃ s : State, s.HostWorking (.setGovernor ⟨some false, none, none, none, none⟩) ∧
      s.gov.load = .crowded) :=
  ⟨⟨_, atHost_working (s := State.reset) _ rfl⟩,
    ⟨_, atHost_working (s := { State.reset with gov := { State.reset.gov with load := .crowded } }) _ rfl,
      rfl⟩⟩

theorem witness_HoldRequest : (∃ s : State, s.HostWorking (.hold 4000)) ∧
    EndsLatched (linked .idle) .whole .idle ∧ 4000 < natOfBytes [0x0F, 0xA1] ∧
    SoundFrame [0x1A, 0x02, 0x0F, 0xA1, crc8 [0x1A, 0x02, 0x0F, 0xA1]] 0x1A [0x0F, 0xA1] :=
  ⟨⟨_, atHost_working (s := State.reset) _ rfl⟩, Or.inr ⟨rfl, rfl, rfl, rfl⟩, by decide,
    ⟨2, by decide, rfl, by decide +kernel⟩⟩

theorem witness_Readings : (∃ s : State, s.HostWorking .identify) ∧
    (∃ s : State, s.HostWorking (.readGovernor true)) ∧
    (∀ g, ∃ s : State, s.HostReady (.readSettings g) ∧ s.HostWorking (.readSettings g)) :=
  ⟨⟨_, atHost_working (s := State.reset) _ rfl⟩, ⟨_, atHost_working (s := State.reset) _ rfl⟩,
    fun g => ⟨_, atHost_ready (s := State.reset) (.readSettings g) rfl, atHost_working _ rfl⟩⟩

theorem witness_FetchNotices : let q : List Notice := List.replicate 9 ⟨0, .governor .calm 0⟩
    ∃ s : State, s.HostWorking (.fetchNotices 8) ∧ 1 ≤ s.settings.notice.coalesceCount ∧
      s.notices.queue = q :=
  ⟨_, atHost_working (s := { State.reset with
    notices := ⟨List.replicate 9 ⟨0, .governor .calm 0⟩, false, none, true⟩ }) _ rfl, by decide, rfl⟩

/-- Notice Queues of 32, of 31 with ATTN asserted, of 3 and of 0 with ATTN released. -/
theorem witness_NoticeOffered : let of_ (n : Nat) (attn : Bool) : State := { State.reset with
      notices := ⟨List.replicate n ⟨0, .governor .calm 0⟩, false, none, attn⟩ }
    (of_ 32 true).notices.queue.length = 32 ∧ (of_ 31 true).notices.queue.length = 31 ∧
    (of_ 3 false).settings.notice.coalesceCount = 3 + 1 ∧ (of_ 0 false).notices.queue.length = 0 ∧
    (of_ 2 false).notices.queue.length + 1 < 4 := by decide

theorem ticket_withStation (r : Record) (n : Nat) : (withStation r).ticket n = ⟨0, none⟩ :=
  (State.ticket_congr (s := State.reset) (by simp [withStation]) n).trans (ticket_reset n)

theorem issuedTo_withStation (r : Record) (h : Nat) : (withStation r).issuedTo h = 0 := by
  have : (withStation r).tickets = Vector.replicate 24 ⟨0, none⟩ := by
    simp [withStation, State.reset]
  rw [State.issuedTo, this]; rfl

theorem lists_withStation_seat : (withStation seat).lists = ⟨[], [230], []⟩ := by decide +kernel

/-- A part with one station keeps every law. -/
theorem lawful_withStation : (withStation seat).Lawful where
  pool := ⟨pool_reset.nodup, fun n => (pool_reset.exact n).trans (by
    rw [ticket_withStation, ticket_reset])⟩
  classSettings := ⟨fun c => by rw [ClassSettings.InRange]; cases c <;> decide +kernel,
    fun c i h => nomatch h⟩
  holder := by
    refine ⟨?_, fun h _ => issuedTo_withStation seat h, ?_, ?_⟩ <;> intro h r hr <;>
      rw [record_withStation] at hr <;> split at hr <;> simp at hr
    · rw [issuedTo_withStation, ← hr]; rfl
    · rw [← hr]; decide
    · rw [← hr]; intro hl; cases hl
  list := by
    refine ⟨fun c => by rw [lists_withStation_seat]; cases c <;> decide, fun h c => ?_⟩
    rw [lists_withStation_seat, record_withStation]
    cases c <;> (simp [ClassMap.get, seat, Record.eligible]; try grind)
  index := witness_IndexLookup
  filter := ⟨by decide, by decide, fun h r _ _ => by
    rw [show (withStation seat).strangers = [] by simp [withStation, State.reset]]; simp⟩
  occupancy := fun c => by cases c <;> decide +kernel
  balance := fun h r hr => by
    rw [record_withStation] at hr
    split at hr <;> simp at hr
    rw [← hr]; decide +kernel
  tier := ⟨tierLaw_reset, fun k e h => nomatch h⟩
  queue := ⟨by decide, by decide, by decide⟩
  await := ⟨fun _ n => by rw [ticket_withStation]; rfl, fun _ m h => nomatch h⟩
  skip := ⟨by decide, fun _ => rfl⟩
  arbiter := ⟨fun _ c => by cases c <;> rfl, fun c h => nomatch h⟩
  attention := ⟨by decide, by decide, by decide, fun i n h => nomatch h⟩
  governor := ⟨fun _ => rfl, fun _ => rfl, by decide, by decide, by decide, fun ms h => (nomatch h),
    by decide, fun i h => nomatch h⟩
  timebase := by rw [State.TimebaseLaw]; decide

/-- The state that meets the hypotheses of every StepKeeps… statement. -/
theorem witness_StepKeepsLawful : ∃ s t : State, s.Lawful ∧ s.PoolLaw ∧ s.ClassSettingsLaw ∧ s.HolderLaw ∧
    s.ListLaw ∧ s.IndexLaw ∧ s.BalanceLaw ∧ step s = .next t := by
  have l := lawful_withStation
  refine ⟨withStation seat, (withStation seat).idle, l, l.pool, l.classSettings, l.holder, l.list,
    l.index, l.balance, ?_⟩
  have h : (withStation seat).ownStep = none := by decide +kernel
  have p : (withStation seat).pending = [] := rfl
  simp only [step, h, p]
end Sys2Proof.Tests
end

section
/-! PROOF. What one command can do, said once: the works of the four clients with their guards, the moves
of the part, and that every command in every state answers a next state that moves lead to. -/

namespace Sys2Proof.Machine

/-! ### The works of the clients -/

/-- A station admitted at a handle (R28 to R30): its new record, and its address out of the Stranger
Filter. -/
def State.admitAt (s : State) (a : Admission) (h : Nat) : State :=
  { s.putRecord h (some (a.newRecord (s.classSettings a.cls))) with
    strangers := s.strangers.erase a.address }

/-- What executing a request does to the part, with the guards under which it does it; the answer and the
end of the transaction are apart. RESET FULL is a move of its own. -/
inductive State.HostWork (s : State) : Request → State → Prop
  /-- The request reads the part or is refused. -/
  | nothing (r : Request) : s.HostWork r s
  | admission {a : Admission} {h : Nat} (stranger : s.indexLookup a.address = none)
      (room : s.occupancy a.cls < (s.classSettings a.cls).capacity) (free : s.lowestFree = some h) :
      s.HostWork (.admitStation a) (s.admitAt a h)
  | amend {h : Nat} {a : Amendment} {r : Record} (own : s.record h = some r) (living : r.living = true)
      (room : s.classItemFull r a.cls = false) : s.HostWork (.amend h a) (s.applyAmendment h a)
  | retire {h : Nat} {r : Record} (own : s.record h = some r) (living : r.living = true) :
      s.HostWork (.retire h) (s.retire h .host)
  | clearMarks {h : Nat} {r : Record} (own : s.record h = some r) :
      s.HostWork (.readRecord h true) (s.putRecord h (some r.clearMarks))
  | setClass {c : Cls} {i : ClassItems}
      (room : i.capacity.isSome = true → s.occupancy c ≤ (i.apply (s.classSettings c)).capacity) :
      s.HostWork (.setClass c i) (s.applyClass c i)
  | setTierWrite {k : Nat} {e : TierEntry} (order : s.settings.writeBreaksOrder k e = false) :
      s.HostWork (.setTierWrite k e) (s.putTier k (some e))
  | setTierInvalidate {k : Nat} (order : s.settings.invalidateBreaksOrder k = false) :
      s.HostWork (.setTierInvalidate k) (s.putTier k none)
  | setScheduler (i : SchedulerItems) : s.HostWork (.setScheduler i)
      { s with settings := { s.settings with scheduler := i.apply s.settings.scheduler } }
  | setPresence (i : PresenceItems) : s.HostWork (.setPresence i)
      { s with
        settings := { s.settings with presence := i.apply s.settings.presence }
        sweeper := s.sweeper.afterPresence i.passPeriod }
  | setGovernor (i : GovernorItems) : s.HostWork (.setGovernor i)
      ({ s with settings := { s.settings with
        governor := i.apply s.settings.governor } }.setGovernorState
          (s.gov.restarted (i.apply s.settings.governor) i.mode))
  | setNotice (i : NoticeItems) : s.HostWork (.setNotice i)
      { s with
        settings := { s.settings with notice := i.apply s.settings.notice }
        notices := s.notices.afterCount i.coalesceCount }
  | readGovernor (clear : Bool) : s.HostWork (.readGovernor clear)
      { s with gov := { s.gov with busiest := if clear then 0 else s.gov.busiest } }
  | hold (ms : Nat) : s.HostWork (.hold ms) { s with gov := { s.gov with hold := ms * 1000 } }
  | fetchNotices (n : Nat) : s.HostWork (.fetchNotices n)
      { s with notices := s.notices.fetched s.settings.notice n }
  | resetAccounts : s.HostWork .resetAccounts
      { s.mapRecords (fun r => r.resetAccount (s.classSettings r.cls)) with
        skip := 0
        gov := s.gov.resetAccounts }

/-- What working a message does to the part, with its guards; the answer and the end of the transaction
are apart. -/
inductive State.MediumWork (s : State) : MessageBody → State → Prop
  /-- The message is answered and changes nothing. -/
  | nothing (b : MessageBody) : s.MediumWork b s
  | visits (offered : Nat) : s.MediumWork (.opportunity offered)
      (State.walk s.readings offered (s.classOrder s.readings) 0 s).state
  | completion {c : Completion} {i : Issue} (issued : (s.ticket c.ticket).issue = some i) :
      s.MediumWork (.complete c) (s.acceptCompletion c i.holder)
  | heard {h : Hearing} {n : Nat} (known : s.indexLookup h.address = some n) :
      s.MediumWork (.heard h)
        ((s.updateRecord n fun r => r.afterHeard (s.classSettings r.cls) h).judge n)
  | stranger {h : Hearing} (unknown : s.indexLookup h.address = none)
      (new : h.address ∉ s.strangers) : s.MediumWork (.heard h)
        ({ s with strangers := filterAppend s.strangers h.address }.notify
          (.stranger h.address h.kind h.rate))
  | demand {h n : Nat} {r : Record} (own : s.record h = some r) :
      s.MediumWork (.demand h n) ((s.putRecord h (some (r.setBacklog n))).judge h)
  | resync : s.MediumWork .resync s.resynced

/-- What an expiry transaction does to the part, its end apart. -/
inductive State.ExpiryWork (s : State) : State → Prop
  | nothing : s.ExpiryWork s
  | expire {n : Nat} {i : Issue} (issued : (s.ticket n).issue = some i) : s.ExpiryWork (s.expire n i)

/-- What the step of a handle in a pass does to the part, its end apart. -/
inductive State.SweepWork (s : State) : State → Prop
  | nothing : s.SweepWork s
  | age {h : Nat} {r : Record} (own : s.record h = some r) (living : r.living = true) :
      s.SweepWork (s.age h r)
  | count {h : Nat} {r : Record} (own : s.record h = some r) :
      s.SweepWork (s.putRecord h (some { r with linger := r.linger - 1 }))

/-! ### The moves of the part -/

/-- A request that has passed its checks begins (R179): the port works on it, and it asks for the table if
it needs it. -/
def State.startRequest (s : State) (r : Request) : State :=
  if r.usesTable then { s with req := { s.req with port := .working r } }.ask .requestEngine
  else { s with req := { s.req with port := .working r } }

/-- One move of the part. Every command is made of these. -/
inductive State.Move (s : State) : State → Prop
  | time (n : Nat) : s.Move (s.passTime n)
  | word (w : Word) : s.Move (s.writeWord w)
  | read : s.Move { s with medium := s.medium.readWord }
  | take {m : RawMessage} {rest : List RawMessage} (can : s.canTake = true)
      (head : s.medium.inbound = m :: rest) :
      s.Move ({ s with medium := { s.medium with inbound := rest } }.workMessage m)
  | medium {m : Message} {u : State} (a : MediumAnswer) (holder : s.arbiter.holder = some .mediumEngine)
      (held : s.medium.work = some m) (work : s.MediumWork m.body u) : s.Move (u.endMedium m.tag a)
  | host {r : Request} {u : State} (a : HostAnswer) (port : s.req.port = .working r)
      (work : s.HostWork r u) : s.Move (u.endHost a)
  | direct {r : Request} {u : State} (a : HostAnswer) (port : s.req.port = .working r)
      (tableless : r.usesTable = false) (work : s.HostWork r u) : s.Move (u.hostAnswer a)
  | expiry {u : State} (work : s.ExpiryWork u) : s.Move { u with timerAsked := u.anyDue }.release
  | sweep {u : State} (pass : Option Nat) (work : s.SweepWork u) :
      s.Move { u with sweeper := { s.sweeper with pass := pass } }.release
  | ticketDue : s.Move s.ticketDue
  | periodExpired : s.Move s.periodExpired
  | windowEnded : s.Move s.windowEnded
  | coalesceExpired : s.Move s.coalesceExpired
  /-- CSn falls or rises, and an answer read to its end leaves the buffer. -/
  | link {q : RequestPort}
      (port : q.port = s.req.port ∨ (q.port = .idle ∧ ∃ a, s.req.port = .answerReady a)) :
      s.Move { s with req := q }
  /-- A frame is refused without being executed. -/
  | refused (a : HostAnswer) (idle : s.req.port = .idle) : s.Move (s.hostAnswer a)
  | submitted {code : Nat} {body : List Byte} {r : Request} (idle : s.req.port = .idle)
      (parsed : parseRequest s.settings code body = some (some r)) : s.Move (s.startRequest r)
  | pins (p : ResetPins) : s.Move { s with pins := p }
  /-- A hard reset or RESET FULL. -/
  | reset {t : State} (port : t.req.port = .idle ∨ ∃ a, t.req.port = .answerReady a)
      (pending : t.pending = s.pending)
      (blocks : UnchangedExcept [.pending, .pins, .resetRecord, .req] State.reset t) : s.Move t

/-- Moves one after another. -/
abbrev State.Moves : State → State → Prop := Relation.ReflTransGen State.Move

/-- A result is a next state that moves lead to. -/
def State.Answers (s : State) (r : Result) : Prop := ∃ t, r = .next t ∧ s.Moves t

theorem State.Answers.stateAfter {s : State} {r : Result} (h : s.Answers r) :
    s.Moves (stateAfter s r) := by
  obtain ⟨t, rfl, ht⟩ := h
  exact ht

/-! ### The guards -/

theorem State.unlessReset_answers {s : State} {f : State → State} (h : s.Moves (f s)) :
    s.Answers (s.unlessReset f) := by
  refine ⟨_, rfl, ?_⟩
  split
  · exact .refl
  · exact h

theorem State.inMediumTransaction_answers {s : State} {f : Message → Option State}
    (h : ∀ m t, s.arbiter.holder = some .mediumEngine → s.medium.work = some m → f m = some t →
      s.Move t) : s.Answers (s.inMediumTransaction f) := by
  refine s.unlessReset_answers ?_
  split
  · rename_i m holder held
    cases hf : f m with
    | none => exact .refl
    | some t => exact .single (h m t holder held hf)
  · exact .refl

theorem State.inHostTransaction_answers {s : State} {f : Request → Option State}
    (h : ∀ r t, s.req.port = .working r → f r = some t → s.Move t) :
    s.Answers (s.inHostTransaction f) := by
  refine s.unlessReset_answers ?_
  split
  · rename_i r _ port
    cases hf : f r with
    | none => exact .refl
    | some t => exact .single (h r t port hf)
  · exact .refl

theorem State.inHostRequest_answers {s : State} {f : Request → Option State}
    (h : ∀ r t, s.req.port = .working r → f r = some t → s.Move t) :
    s.Answers (s.inHostRequest f) := by
  refine s.unlessReset_answers ?_
  split
  · rename_i r port
    cases hf : f r with
    | none => exact .refl
    | some t => exact .single (h r t port hf)
  · exact .refl

/-! ### The Medium Engine's transactions -/

theorem State.serve_work (s : State) (offered : Nat) :
    s.MediumWork (.opportunity offered) (s.serve offered).1 := by
  rw [State.serve]
  split
  · exact .nothing _
  · split
    · exact .nothing _
    · exact .visits offered

theorem State.completed_work (s : State) (c : Completion) :
    s.MediumWork (.complete c) (s.completed c).1 := by
  rw [State.completed]
  split
  · exact .nothing _
  · rename_i i issued
    split
    · exact .completion issued
    · exact .nothing _

theorem State.hear_work (s : State) (h : Hearing) : s.MediumWork (.heard h) (s.hear h).1 := by
  rw [State.hear]
  split
  · rename_i unknown
    simp only [State.strangerHeard]
    split
    · rename_i offered
      exact .stranger unknown (by simp at offered; exact offered.2)
    · exact .nothing _
  · rename_i n known
    exact .heard known

theorem State.demanded_work (s : State) (h n : Nat) :
    s.MediumWork (.demand h n) (s.demanded h n).1 := by
  rw [State.demanded]
  split
  · exact .nothing _
  · rename_i r own
    split
    · exact .demand own
    · exact .nothing _

theorem execOpportunity_answers (s : State) : s.Answers (execOpportunity s) :=
  State.inMediumTransaction_answers fun m t holder held hf => by
    split at hf
    · rename_i offered body
      cases hf
      exact .medium _ holder held (body ▸ s.serve_work offered)
    · cases hf

theorem execComplete_answers (s : State) : s.Answers (execComplete s) :=
  State.inMediumTransaction_answers fun m t holder held hf => by
    split at hf
    · rename_i c body
      cases hf
      exact .medium _ holder held (body ▸ s.completed_work c)
    · cases hf

theorem execHeard_answers (s : State) : s.Answers (execHeard s) :=
  State.inMediumTransaction_answers fun m t holder held hf => by
    split at hf
    · rename_i h body
      cases hf
      exact .medium _ holder held (body ▸ s.hear_work h)
    · cases hf

theorem execDemand_answers (s : State) : s.Answers (execDemand s) :=
  State.inMediumTransaction_answers fun m t holder held hf => by
    split at hf
    · rename_i h n body
      cases hf
      exact .medium _ holder held (body ▸ s.demanded_work h n)
    · cases hf

theorem execResync_answers (s : State) : s.Answers (execResync s) :=
  State.inMediumTransaction_answers fun m t holder held hf => by
    split at hf
    · rename_i body
      cases hf
      exact .medium _ holder held (body ▸ .resync)
    · cases hf

theorem execMessageTake_answers (s : State) : s.Answers (execMessageTake s) := by
  refine s.unlessReset_answers ?_
  split
  · rename_i can
    split
    · exact .refl
    · rename_i m rest head
      exact .single (.take can head)
  · exact .refl

/-! ### The Request Engine's requests -/

theorem State.admitTo_work (s : State) (a : Admission) :
    s.HostWork (.admitStation a) (s.admitTo a).1 := by
  rw [State.admitTo]
  split
  · exact .nothing _
  · rename_i stranger
    split
    · exact .nothing _
    · rename_i room
      split
      · exact .nothing _
      · rename_i h free
        exact .admission stranger (by omega) free

theorem State.amended_work (s : State) (h : Nat) (a : Amendment) :
    s.HostWork (.amend h a) (s.amended h a).1 := by
  rw [State.amended]
  split
  · exact .nothing _
  · rename_i r own
    split
    · exact .nothing _
    · rename_i living
      split
      · exact .nothing _
      · rename_i room
        exact .amend own (by simpa using living) (by simpa using room)

theorem State.retired_work (s : State) (h : Nat) : s.HostWork (.retire h) (s.retired h).1 := by
  rw [State.retired]
  split
  · exact .nothing _
  · rename_i r own
    split
    · exact .nothing _
    · rename_i living
      have work : s.HostWork (.retire h) (s.retire h .host) := .retire own (by simpa using living)
      split <;> exact work

theorem State.readOut_work (s : State) (h : Nat) (clear : Bool) :
    s.HostWork (.readRecord h clear) (s.readOut h clear).1 := by
  rw [State.readOut]
  split
  · exact .nothing _
  · rename_i r own
    cases clear
    · exact .nothing _
    · exact .clearMarks own

theorem State.classSet_work (s : State) (c : Cls) (i : ClassItems) :
    s.HostWork (.setClass c i) (s.classSet c i).1 := by
  rw [State.classSet]
  split
  · exact .nothing _
  · rename_i room
    exact .setClass fun present => by
      by_contra full
      exact room ⟨by omega, present⟩

theorem execAdmit_answers (s : State) : s.Answers (execAdmit s) :=
  State.inHostTransaction_answers fun r t port hf => by
    split at hf
    · cases hf
      exact .host _ port (s.admitTo_work _)
    · cases hf

theorem execAmend_answers (s : State) : s.Answers (execAmend s) :=
  State.inHostTransaction_answers fun r t port hf => by
    split at hf
    · cases hf
      exact .host _ port (s.amended_work _ _)
    · cases hf

theorem execRetire_answers (s : State) : s.Answers (execRetire s) :=
  State.inHostTransaction_answers fun r t port hf => by
    split at hf
    · cases hf
      exact .host _ port (s.retired_work _)
    · cases hf

theorem execLookup_answers (s : State) : s.Answers (execLookup s) :=
  State.inHostTransaction_answers fun r t port hf => by
    split at hf
    · cases hf
      exact .host _ port (.nothing _)
    · cases hf

theorem execReadRecord_answers (s : State) : s.Answers (execReadRecord s) :=
  State.inHostTransaction_answers fun r t port hf => by
    split at hf
    · cases hf
      exact .host _ port (s.readOut_work _ _)
    · cases hf

theorem execList_answers (s : State) : s.Answers (execList s) :=
  State.inHostTransaction_answers fun r t port hf => by
    split at hf
    · cases hf
      exact .host _ port (.nothing _)
    · cases hf

theorem execReadTickets_answers (s : State) : s.Answers (execReadTickets s) :=
  State.inHostTransaction_answers fun r t port hf => by
    split at hf
    · cases hf
      exact .host _ port (.nothing _)
    · cases hf

theorem execSetClass_answers (s : State) : s.Answers (execSetClass s) :=
  State.inHostTransaction_answers fun r t port hf => by
    split at hf
    · cases hf
      exact .host _ port (s.classSet_work _ _)
    · cases hf

theorem execSetTierWrite_answers (s : State) : s.Answers (execSetTierWrite s) :=
  State.inHostTransaction_answers fun r t port hf => by
    split at hf
    · split at hf
      · cases hf
        exact .host _ port (.nothing _)
      · rename_i order
        cases hf
        exact .host _ port (.setTierWrite (by simpa using order))
    · cases hf

theorem execSetTierInvalidate_answers (s : State) : s.Answers (execSetTierInvalidate s) :=
  State.inHostTransaction_answers fun r t port hf => by
    split at hf
    · split at hf
      · cases hf
        exact .host _ port (.nothing _)
      · rename_i order
        cases hf
        exact .host _ port (.setTierInvalidate (by simpa using order))
    · cases hf

theorem execSetScheduler_answers (s : State) : s.Answers (execSetScheduler s) :=
  State.inHostTransaction_answers fun r t port hf => by
    split at hf
    · cases hf
      exact .host _ port (.setScheduler _)
    · cases hf

theorem execResetAccounts_answers (s : State) : s.Answers (execResetAccounts s) :=
  State.inHostTransaction_answers fun r t port hf => by
    split at hf
    · cases hf
      exact .host _ port .resetAccounts
    · cases hf

theorem execIdentify_answers (s : State) : s.Answers (execIdentify s) :=
  State.inHostRequest_answers fun r t port hf => by
    split at hf
    · cases hf
      exact .direct _ port rfl (.nothing _)
    · cases hf

theorem execReadSettings_answers (s : State) : s.Answers (execReadSettings s) :=
  State.inHostRequest_answers fun r t port hf => by
    split at hf
    · rename_i g
      split at hf
      · split at hf
        · cases hf
          exact .host _ port (.nothing _)
        · cases hf
      · rename_i tableless
        cases hf
        exact .direct _ port (by simpa [Request.usesTable] using tableless) (.nothing _)
    · cases hf

theorem execReadGovernor_answers (s : State) : s.Answers (execReadGovernor s) :=
  State.inHostRequest_answers fun r t port hf => by
    split at hf
    · cases hf
      exact .direct _ port rfl (.readGovernor _)
    · cases hf

theorem execFetchNotices_answers (s : State) : s.Answers (execFetchNotices s) :=
  State.inHostRequest_answers fun r t port hf => by
    split at hf
    · cases hf
      exact .direct _ port rfl (.fetchNotices _)
    · cases hf

theorem execSetPresence_answers (s : State) : s.Answers (execSetPresence s) :=
  State.inHostRequest_answers fun r t port hf => by
    split at hf
    · cases hf
      exact .direct _ port rfl (.setPresence _)
    · cases hf

theorem execSetGovernor_answers (s : State) : s.Answers (execSetGovernor s) :=
  State.inHostRequest_answers fun r t port hf => by
    split at hf
    · split at hf
      · cases hf
        exact .direct _ port rfl (.nothing _)
      · cases hf
        exact .direct _ port rfl (.setGovernor _)
    · cases hf

theorem execSetNotice_answers (s : State) : s.Answers (execSetNotice s) :=
  State.inHostRequest_answers fun r t port hf => by
    split at hf
    · cases hf
      exact .direct _ port rfl (.setNotice _)
    · cases hf

theorem execHold_answers (s : State) : s.Answers (execHold s) :=
  State.inHostRequest_answers fun r t port hf => by
    split at hf
    · cases hf
      exact .direct _ port rfl (.hold _)
    · cases hf

/-! ### Resets -/

theorem execResetFull_answers (s : State) : s.Answers (execResetFull s) :=
  State.inHostTransaction_answers fun r t port hf => by
    split at hf
    · cases hf
      exact .reset (.inr ⟨_, rfl⟩) rfl (.of_parts fun p => by cases p <;> simp [Part.Same, State.reset])
    · cases hf

theorem execHardReset_answers (powerOn pin : Bool) (s : State) : s.Answers (execHardReset powerOn pin s) := by
  rw [execHardReset]
  split
  · exact ⟨_, rfl, .single (.reset (.inl rfl) rfl
      (.of_parts fun p => by cases p <;> simp [Part.Same, State.reset]))⟩
  · exact ⟨_, rfl, .single (.pins _)⟩

/-! ### The ports -/

theorem State.writeWord_answers (s : State) (w : Word) :
    s.Answers (s.unlessReset (·.writeWord w)) :=
  s.unlessReset_answers (.single (.word w))

theorem execAnswerWordRead_answers (s : State) : s.Answers (execAnswerWordRead s) :=
  s.unlessReset_answers (.single .read)

theorem RequestPort.fall_port (q : RequestPort) : q.fall.port = q.port := by
  unfold RequestPort.fall; split <;> rfl

/-- A transaction on the link: the fall and the rise move the link only, so its effect is what it does
between. -/
theorem State.spi_moves {s : State} {span : SpiSpan} {f : PortStatus → State → State}
    (h : ∀ latched (u : State), u.Moves (f latched u)) : s.Moves (s.spi span f) := by
  have fell : s.Moves (if span = .rise then s else { s with req := s.req.fall }) := by
    split
    · exact .refl
    · exact .single (.link (.inl s.req.fall_port))
  simp only [State.spi]
  split
  · exact fell
  · split
    · exact fell.tail (.link (.inl rfl))
    · exact fell.trans (h _ _)

theorem State.takeFrame_moves {s : State} (idle : s.req.port = .idle) (bytes : List Byte) :
    s.Moves (s.takeFrame bytes) := by
  rw [State.takeFrame.eq_def]
  split
  · rename_i code len rest
    split
    · exact .single (.refused _ idle)
    · split
      · exact .single (.refused _ idle)
      · exact .single (.refused _ idle)
      · rename_i r parsed
        exact .single (.submitted idle parsed)
  · exact .refl

theorem execSubmit_answers (span : SpiSpan) (bytes : List Byte) (tail : Nat) (s : State) :
    s.Answers (execSubmit span bytes tail s) := by
  refine s.unlessReset_answers (s.spi_moves fun latched u => ?_)
  have risen : ∀ miso, u.Move { u with req := u.req.rise miso } := fun miso => .link (.inl rfl)
  simp only
  split
  · rename_i idle
    refine .head (risen _) (State.takeFrame_moves ?_ bytes)
    exact idle
  · exact .single (risen _)

theorem execCollect_answers (span : SpiSpan) (clocked tail : Nat) (s : State) :
    s.Answers (execCollect span clocked tail s) := by
  refine s.unlessReset_answers (s.spi_moves fun latched u => ?_)
  simp only
  split
  · rename_i a ready
    split
    · exact .single (.link (.inr ⟨rfl, a, ready⟩))
    · exact .single (.link (.inl rfl))
  · exact .single (.link (.inl rfl))

theorem execStatusOnlyTransaction_answers (span : SpiSpan) (direction : Option Byte) (clocked : Nat)
    (s : State) : s.Answers (execStatusOnlyTransaction span direction clocked s) :=
  s.unlessReset_answers (s.spi_moves fun _ _ => .single (.link (.inl rfl)))

theorem execCsnSeenHigh_answers (s : State) : s.Answers (execCsnSeenHigh s) :=
  s.unlessReset_answers (.single (.link (.inl rfl)))

/-! ### The Ticket Timer and the Sweeper -/

/-- The earliest due ticket is ISSUED (R131). -/
theorem issue_of_earliestDue {l : List Ticket} {i n : Nat} {x : Issue}
    (h : earliestDue i l = some (n, x)) : i ≤ n ∧ (l[n - i]?).bind Ticket.issue = some x := by
  induction l generalizing i with
  | nil => simp [earliestDue] at h
  | cons t rest ih =>
    have later : earliestDue (i + 1) rest = some (n, x) →
        i ≤ n ∧ ((t :: rest)[n - i]?).bind Ticket.issue = some x := fun hr => by
      obtain ⟨hi, hx⟩ := ih hr
      have step : n - i = (n - (i + 1)) + 1 := by omega
      exact ⟨by omega, by rw [step]; simpa using hx⟩
    rw [earliestDue] at h
    split at h
    · exact later h
    · split at h
      · rename_i y hy _ _
        cases h
        simp [hy]
      · cases h
    · split at h
      · rename_i y j z hy hz _
        cases h
        simp [hy]
      · rename_i y j z hy hz _
        cases h
        exact later hz

theorem State.expireEarliest_work (s : State) : s.ExpiryWork s.expireEarliest := by
  rw [State.expireEarliest]
  split
  · exact .nothing
  · rename_i n i earliest
    obtain ⟨-, hi⟩ := issue_of_earliestDue earliest
    refine .expire ?_
    obtain ⟨t, ht, hi⟩ := Option.bind_eq_some_iff.1 hi
    have : s.tickets[n]? = some t := by simpa using ht
    simp [State.ticket, this, hi]

theorem execExpiry_answers (s : State) : s.Answers (execExpiry s) := by
  refine s.unlessReset_answers ?_
  split
  · exact .single (.expiry s.expireEarliest_work)
  · exact .refl

theorem State.sweep_work (s : State) (h : Nat) : s.SweepWork (s.sweep h) := by
  rw [State.sweep]
  split
  · exact .nothing
  · rename_i r own
    split
    · exact .nothing
    · rename_i counts
      have living : r.living = true := by simp at counts; exact counts.1
      split
      · exact .age own living
      · exact .count own

theorem execSweeperStep_answers (s : State) : s.Answers (execSweeperStep s) := by
  refine s.unlessReset_answers ?_
  split
  · exact .single (.sweep _ (s.sweep_work _))
  · exact .refl

/-! ### The part left to itself -/

/-- The part's own next step is made of moves. -/
theorem State.ownEffect_moves (s : State) (c : Instr) : s.Moves (s.ownEffect c) := by
  cases c with
  | messageTake => exact (execMessageTake_answers s).stateAfter
  | opportunity => exact (execOpportunity_answers s).stateAfter
  | complete => exact (execComplete_answers s).stateAfter
  | heard => exact (execHeard_answers s).stateAfter
  | demand => exact (execDemand_answers s).stateAfter
  | resync => exact (execResync_answers s).stateAfter
  | expiry => exact (execExpiry_answers s).stateAfter
  | sweeperStep => exact (execSweeperStep_answers s).stateAfter
  | ticketDue => exact .single .ticketDue
  | periodTimerExpiry => exact .single .periodExpired
  | windowEnd => exact .single .windowEnded
  | coalesceTimerExpiry => exact .single .coalesceExpired
  | identify => exact (execIdentify_answers s).stateAfter
  | admitStation => exact (execAdmit_answers s).stateAfter
  | amend => exact (execAmend_answers s).stateAfter
  | retire => exact (execRetire_answers s).stateAfter
  | lookup => exact (execLookup_answers s).stateAfter
  | readRecord => exact (execReadRecord_answers s).stateAfter
  | list => exact (execList_answers s).stateAfter
  | readTickets => exact (execReadTickets_answers s).stateAfter
  | setClass => exact (execSetClass_answers s).stateAfter
  | setTierWrite => exact (execSetTierWrite_answers s).stateAfter
  | setTierInvalidate => exact (execSetTierInvalidate_answers s).stateAfter
  | setScheduler => exact (execSetScheduler_answers s).stateAfter
  | setPresence => exact (execSetPresence_answers s).stateAfter
  | setGovernor => exact (execSetGovernor_answers s).stateAfter
  | setNotice => exact (execSetNotice_answers s).stateAfter
  | readSettings => exact (execReadSettings_answers s).stateAfter
  | readGovernor => exact (execReadGovernor_answers s).stateAfter
  | hold => exact (execHold_answers s).stateAfter
  | fetchNotices => exact (execFetchNotices_answers s).stateAfter
  | resetFull => exact (execResetFull_answers s).stateAfter
  | resetAccounts => exact (execResetAccounts_answers s).stateAfter
  | hardReset | messageArrival | strayBodyWord | answerWordRead | holdCounterExpiry | submit | collect
  | statusOnlyTransaction | assemblyWord | csnSeenHigh => exact .refl

/-- A timed command is made of moves when its event is. -/
theorem State.timedEvent_answers {own : State → Option Instr} {left : State → Option Nat}
    {event : State → State} (happens : ∀ s : State, s.Moves (event s)) (s : State) :
    s.Answers (s.unlessReset fun s => s.timedEvent own left event) :=
  s.unlessReset_answers <| State.timedEvent_induction (P := s.Moves)
    (fun u c hu _ => hu.trans (u.ownEffect_moves c)) (fun _ n hu => hu.tail (.time n))
    (fun u hu _ => hu.trans (happens u)) .refl

/-! ### Every command -/

/-- Every command in every state answers a next state that moves lead to. -/
theorem exec_answers (c : Instr) (s : State) : s.Answers (exec c s) := by
  cases c with
  | hardReset powerOn pin => exact execHardReset_answers powerOn pin s
  | messageArrival w => exact s.writeWord_answers w
  | strayBodyWord w => exact s.writeWord_answers w
  | assemblyWord w => exact s.writeWord_answers w
  | answerWordRead => exact execAnswerWordRead_answers s
  | messageTake => exact execMessageTake_answers s
  | opportunity => exact execOpportunity_answers s
  | complete => exact execComplete_answers s
  | heard => exact execHeard_answers s
  | demand => exact execDemand_answers s
  | resync => exact execResync_answers s
  | expiry => exact execExpiry_answers s
  | sweeperStep => exact execSweeperStep_answers s
  | ticketDue => exact State.timedEvent_answers (fun _ => .single .ticketDue) s
  | periodTimerExpiry => exact State.timedEvent_answers (fun _ => .single .periodExpired) s
  | windowEnd => exact State.timedEvent_answers (fun _ => .single .windowEnded) s
  | holdCounterExpiry => exact State.timedEvent_answers (fun _ => .refl) s
  | coalesceTimerExpiry => exact State.timedEvent_answers (fun _ => .single .coalesceExpired) s
  | submit span bytes tail => exact execSubmit_answers span bytes tail s
  | collect span clocked tail => exact execCollect_answers span clocked tail s
  | statusOnlyTransaction span direction clocked =>
    exact execStatusOnlyTransaction_answers span direction clocked s
  | csnSeenHigh => exact execCsnSeenHigh_answers s
  | identify => exact execIdentify_answers s
  | admitStation => exact execAdmit_answers s
  | amend => exact execAmend_answers s
  | retire => exact execRetire_answers s
  | lookup => exact execLookup_answers s
  | readRecord => exact execReadRecord_answers s
  | list => exact execList_answers s
  | readTickets => exact execReadTickets_answers s
  | setClass => exact execSetClass_answers s
  | setTierWrite => exact execSetTierWrite_answers s
  | setTierInvalidate => exact execSetTierInvalidate_answers s
  | setScheduler => exact execSetScheduler_answers s
  | setPresence => exact execSetPresence_answers s
  | setGovernor => exact execSetGovernor_answers s
  | setNotice => exact execSetNotice_answers s
  | readSettings => exact execReadSettings_answers s
  | readGovernor => exact execReadGovernor_answers s
  | hold => exact execHold_answers s
  | fetchNotices => exact execFetchNotices_answers s
  | resetFull => exact execResetFull_answers s
  | resetAccounts => exact execResetAccounts_answers s

end Sys2Proof.Machine
end

section
/-! PROOF. What the works do to the table: one record at a time, its service lists and its tickets; the
moves that leave the table as it is; and what every visit of an OPPORTUNITY keeps, all of them keep. -/

namespace Sys2Proof.Machine

/-! ### One record -/

theorem OneRecord.putRecord {s : State} {h : Nat} {r : Record} (own : s.record h = some r)
    (o : Option Record) : OneRecord s (s.putRecord h o) h o :=
  ⟨State.record_putRecord_self own o, fun _ hk => State.record_putRecord_other hk o⟩

theorem OneRecord.trans {s t u : State} {h : Nat} {o p : Option Record} (one : OneRecord s t h o)
    (next : OneRecord t u h p) : OneRecord s u h p :=
  ⟨next.own, fun k hk => (next.others k hk).trans (one.others k hk)⟩

theorem OneRecord.of_records {s t u : State} {h : Nat} {o : Option Record} (one : OneRecord s t h o)
    (same : u.records = t.records) : OneRecord s u h o :=
  ⟨(State.record_congr same h).trans one.own,
    fun k hk => (State.record_congr same k).trans (one.others k hk)⟩

theorem OneRecord.from_records {s t u : State} {h : Nat} {o : Option Record} (one : OneRecord t u h o)
    (same : t.records = s.records) : OneRecord s u h o :=
  ⟨one.own, fun k hk => (one.others k hk).trans (State.record_congr same k)⟩

theorem OneRecord.updateRecord {s : State} {h : Nat} {r : Record} (own : s.record h = some r)
    (f : Record → Record) : OneRecord s (s.updateRecord h f) h (some (f r)) := by
  rw [State.updateRecord_some own]
  exact .putRecord own _

theorem OneRecord.charge {s : State} {h : Nat} {r : Record} (own : s.record h = some r) (n : Nat) :
    OneRecord s (s.charge h n) h (some (r.charge n)) :=
  ⟨(State.charge_some own n).1, (State.charge_some own n).2.1⟩

/-- What the end of a drain leaves of a record (R47). -/
def Record.drained (r : Record) : Option Record :=
  if r.living = false ∧ r.held = 0 then none else some r

theorem OneRecord.endDrain {s : State} {h : Nat} {r : Record} (own : s.record h = some r) :
    OneRecord s (s.endDrain h) h r.drained := by
  have same : OneRecord s s h (some r) := ⟨own, fun _ _ => rfl⟩
  cases hs : r.state with
  | retiring cause =>
    by_cases hz : r.held = 0
    · simpa [State.endDrain, own, Record.drained, Record.living, hs, hz] using
        (OneRecord.putRecord own none).of_records (State.notify_records _
          (.retired h r.address r.label r.consumed cause.noticeCause))
    · simpa [State.endDrain, own, Record.drained, hs, hz] using same
  | active | dozing | barred =>
    simpa [State.endDrain, own, Record.drained, Record.living, hs] using same

/-- What a retirement leaves of a record (R45). -/
def Record.retired (r : Record) (cause : DrainCause) : Option Record :=
  if r.held = 0 then none else some { r with state := .retiring cause }

theorem OneRecord.retire {s : State} {h : Nat} {r : Record} (own : s.record h = some r)
    (cause : DrainCause) : OneRecord s (s.retire h cause) h (r.retired cause) := by
  have off : (s.unlist r.cls h).record h = some r :=
    (State.record_congr (s.unlist_records r.cls h) h).trans own
  simp only [State.retire, own]
  exact (OneRecord.putRecord off _).from_records (s.unlist_records r.cls h)

/-- A record after a completion, its drain ended where it is over (R126 to R128). -/
theorem OneRecord.acceptCompletion {s : State} {h : Nat} {r : Record} (own : s.record h = some r)
    (c : Completion) :
    OneRecord s (s.acceptCompletion c h) h ((r.charge c.used).afterCompletion c).drained := by
  have returned : (s.returnTicket c.ticket).record h = some r :=
    (State.record_congr (s.returnTicket_records c.ticket) h).trans own
  have updated := (OneRecord.charge returned c.used).trans
    (.updateRecord (OneRecord.charge returned c.used).own (·.afterCompletion c))
  have judged := updated.of_records (State.judge_records _ h)
  exact (judged.trans (.endDrain judged.own)).from_records (s.returnTicket_records c.ticket)

/-- A holder after the expiry of a ticket of this limit, the end of its drain apart (R131). -/
def Record.afterExpiry (r : Record) (limit : Nat) : Record :=
  { r.charge limit with held := r.held - 1 }

theorem OneRecord.expire {s : State} {n : Nat} {i : Issue} {r : Record}
    (own : s.record i.holder = some r) :
    OneRecord s (s.expire n i) i.holder (r.afterExpiry i.limit).drained := by
  have returned : (s.returnTicket n).record i.holder = some r :=
    (State.record_congr (s.returnTicket_records n) i.holder).trans own
  have charged := OneRecord.charge returned i.limit
  have updated := charged.trans (.updateRecord charged.own fun r => { r with held := r.held - 1 })
  have noted := updated.of_records (State.notify_records _
    (.expired i.holder (s.labelOf i.holder) n i.limit))
  exact (noted.trans (.endDrain noted.own)).from_records (s.returnTicket_records n)

/-- A record after a grant to it (R109). -/
def Record.granted (r : Record) : Record :=
  { r with held := r.held + 1, grantCount := min Config.grantCountMax (r.grantCount + 1) }

theorem OneRecord.issueTo {s : State} {t h : Nat} {r : Record} (own : s.record h = some r) (limit : Nat) :
    OneRecord s (s.issueTo t h r limit) h (some r.granted) :=
  (OneRecord.putRecord own (some r.granted)).of_records rfl

/-- What ageing leaves of a record (R67). -/
def Record.grownOld (r : Record) (auto : Bool) : Option Record :=
  if auto then { r with linger := 0, aged := true }.retired .aged
  else some { r with linger := 0, aged := true }

theorem OneRecord.age {s : State} {h : Nat} {r : Record} (own : s.record h = some r) :
    OneRecord s (s.age h r) h (r.grownOld (s.classSettings r.cls).autoRetire) := by
  have aged := OneRecord.putRecord own (some { r with linger := 0, aged := true })
  simp only [State.age, Record.grownOld]
  split
  · exact (aged.trans (.retire aged.own .aged)).of_records rfl
  · exact aged.of_records rfl

theorem OneRecord.heard {s : State} {h : Nat} {r : Record} (own : s.record h = some r)
    (f : Record → Record) : OneRecord s ((s.updateRecord h f).judge h) h (some (f r)) :=
  (OneRecord.updateRecord own f).of_records (State.judge_records _ h)

/-- A record after a class item (R40). -/
def Record.inClass (r : Record) (g : Settings) : Option Cls → Record
  | none => r
  | some c => if c = r.cls then r else { r with cls := c }.clip (g.classes.get c).balanceCap

/-- A record after every item of an AMEND (R39). -/
def Record.amended (r : Record) (g : Settings) (a : Amendment) : Record :=
  ((r.inClass g a.cls).amendBalance (g.classes.get (r.inClass g a.cls).cls) a.toInitial).amendFields a

theorem OneRecord.changeClassBy {s : State} {h : Nat} {r : Record} (own : s.record h = some r)
    (c : Option Cls) : OneRecord s (s.changeClassBy h c) h (some (r.inClass s.settings c)) := by
  have same : OneRecord s s h (some r) := ⟨own, fun _ _ => rfl⟩
  cases c with
  | none => exact same
  | some c =>
    simp only [State.changeClassBy, State.changeClass, own, Record.inClass]
    split
    · exact same
    · have off : (s.unlist r.cls h).record h = some r :=
        (State.record_congr (s.unlist_records r.cls h) h).trans own
      exact (OneRecord.putRecord off _).from_records (s.unlist_records r.cls h)

/-! ### A frame, part by part -/

section
variable {parts : List Part} {s t : State} (frame : UnchangedExcept parts s t)
include frame

theorem UnchangedExcept.settings (out : Part.settings ∉ parts := by decide) : t.settings = s.settings :=
  frame .settings out

theorem UnchangedExcept.req (out : Part.req ∉ parts := by decide) : t.req = s.req :=
  frame .req out

theorem UnchangedExcept.medium (out : Part.medium ∉ parts := by decide) : t.medium = s.medium :=
  frame .medium out

theorem UnchangedExcept.notices (out : Part.notices ∉ parts := by decide) : t.notices = s.notices :=
  frame .notices out

theorem UnchangedExcept.gov (out : Part.gov ∉ parts := by decide) : t.gov = s.gov :=
  frame .gov out

theorem UnchangedExcept.sweeper (out : Part.sweeper ∉ parts := by decide) : t.sweeper = s.sweeper :=
  frame .sweeper out

theorem UnchangedExcept.timerAsked (out : Part.timerAsked ∉ parts := by decide) :
    t.timerAsked = s.timerAsked :=
  frame .timerAsked out

theorem UnchangedExcept.time (out : Part.time ∉ parts := by decide) : t.time = s.time :=
  frame .time out

theorem UnchangedExcept.pending (out : Part.pending ∉ parts := by decide) : t.pending = s.pending :=
  frame .pending out

theorem UnchangedExcept.tickets (out : Part.tickets ∉ parts := by decide) : t.tickets = s.tickets :=
  frame .tickets out

theorem UnchangedExcept.pool (out : Part.pool ∉ parts := by decide) : t.pool = s.pool :=
  frame .pool out

theorem UnchangedExcept.lists (out : Part.lists ∉ parts := by decide) : t.lists = s.lists :=
  frame .lists out

theorem UnchangedExcept.skip (out : Part.skip ∉ parts := by decide) : t.skip = s.skip :=
  frame .skip out

theorem UnchangedExcept.strangers (out : Part.strangers ∉ parts := by decide) : t.strangers = s.strangers :=
  frame .strangers out

theorem UnchangedExcept.arbiter (out : Part.arbiter ∉ parts := by decide) : t.arbiter = s.arbiter :=
  frame .arbiter out

end

/-! ### What the works of several records leave as it is -/

/-- Frames of the same parts compose to one of those parts. -/
theorem UnchangedExcept.chain {parts : List Part} {s t u : State} (h : UnchangedExcept parts s t)
    (g : UnchangedExcept parts t u) : UnchangedExcept parts s u := fun p hp =>
  h.trans g p fun twice => (List.mem_append.1 twice).elim hp hp

theorem State.admitAt_frame (s : State) (a : Admission) (h : Nat) :
    UnchangedExcept [.records, .strangers] s (s.admitAt a h) :=
  .of_parts fun p => by cases p <;> simp [Part.Same, State.admitAt]

theorem State.changeClassBy_frame (s : State) (h : Nat) (c : Option Cls) :
    UnchangedExcept [.records, .lists, .skip] s (s.changeClassBy h c) := by
  cases c with
  | none => exact .refl _ s
  | some c =>
    simp only [State.changeClassBy, State.changeClass]
    split
    · exact .refl _ s
    · split
      · exact .refl _ s
      · exact .of_parts fun p => by cases p <;> simp [Part.Same]

theorem State.applyAmendment_frame (s : State) (h : Nat) (a : Amendment) :
    UnchangedExcept [.records, .lists, .skip] s (s.applyAmendment h a) := by
  have judged (u : State) (f : Record → Record) :
      UnchangedExcept [.records, .lists, .skip] u ((u.updateRecord h f).judge h) :=
    .of_parts fun p => by cases p <;> simp [Part.Same]
  exact (s.changeClassBy_frame h a.cls).chain (judged _ _)

theorem OneRecord.applyAmendment {s : State} {h : Nat} {r : Record} (own : s.record h = some r)
    (a : Amendment) : OneRecord s (s.applyAmendment h a) h (some (r.amended s.settings a)) := by
  have moved := OneRecord.changeClassBy own a.cls
  have done := moved.trans (.heard moved.own fun r =>
    (r.amendBalance (s.classSettings r.cls) a.toInitial).amendFields a)
  have same : (s.changeClassBy h a.cls).settings = s.settings :=
    (s.changeClassBy_frame h a.cls).settings
  rw [State.applyAmendment]
  simpa [State.classSettings, same, Record.amended] using done

theorem State.applyClass_frame (s : State) (c : Cls) (i : ClassItems) :
    UnchangedExcept [.records, .settings] s (s.applyClass c i) := by
  simp only [State.applyClass]
  split <;> exact .of_parts fun p => by cases p <;> simp [Part.Same, State.clipClass]

theorem State.resynced_frame (s : State) :
    UnchangedExcept [.records, .tickets, .pool, .notices, .gov, .medium] s s.resynced :=
  .of_parts fun p => by cases p <;> simp [Part.Same, State.resynced]

/-! ### Every visit of an OPPORTUNITY -/

/-- What a rotation, a top-up and a grant keep, the visits of a turn keep. -/
theorem State.turn_induction {P : State → Prop} {rd : Readings} {offered : Nat} {c : Cls}
    (rotates : ∀ s c, P s → P (s.rotate c))
    (tops : ∀ s h r, P s → s.record h = some r → r.balance ≤ 0 →
      P (s.putRecord h (some (s.toppedUp r))))
    (grants : ∀ s t rest h r limit, P s → s.pool = t :: rest → s.record h = some r →
      r.held < (s.classSettings r.cls).ticketCap → P (s.issueTo t h r limit)) :
    ∀ (n : Nat) (s : State), P s → P (State.turn rd offered c n s).state
  | 0, _, hs => hs
  | n + 1, s, hs => by
    have again : ∀ u, P u → P (State.turn rd offered c n u).more.state := fun u hu =>
      State.turn_induction rotates tops grants n u hu
    rw [State.turn]
    split
    · exact hs
    rename_i h rest _
    split
    · exact again _ (rotates s c hs)
    rename_i r own
    split
    · exact again _ (rotates s c hs)
    · rename_i kind
      have low : r.balance ≤ 0 := by simp only [State.visitKind] at kind; grind
      exact again _ (rotates _ c (tops s h r hs own low))
    · rename_i kind
      have room : r.held < (s.classSettings r.cls).ticketCap := by
        simp only [State.visitKind] at kind; grind
      split
      · rename_i s' a granted
        rw [State.grantVisit] at granted
        split at granted
        · rename_i t rest _ e pool _
          cases granted
          exact rotates _ c (grants s t rest h r _ hs pool own room)
        · cases granted
      · exact again _ (rotates s c hs)

/-- What a rotation, a top-up and a grant keep, the visits of an OPPORTUNITY keep. -/
theorem State.walk_induction {P : State → Prop} {rd : Readings} {offered : Nat}
    (rotates : ∀ s c, P s → P (s.rotate c))
    (tops : ∀ s h r, P s → s.record h = some r → r.balance ≤ 0 →
      P (s.putRecord h (some (s.toppedUp r))))
    (grants : ∀ s t rest h r limit, P s → s.pool = t :: rest → s.record h = some r →
      r.held < (s.classSettings r.cls).ticketCap → P (s.issueTo t h r limit)) :
    ∀ (order : List Cls) (made : Nat) (s : State), P s → P (State.walk rd offered order made s).state
  | [], _, _, hs => hs
  | c :: order, made, s, hs => by
    have turned : ∀ n, P (State.turn rd offered c n s).state := fun n =>
      State.turn_induction rotates tops grants n s hs
    rw [State.walk]
    split
    · exact turned _
    · exact State.walk_induction rotates tops grants order _ _ (turned _)

theorem State.walk_frame (rd : Readings) (offered : Nat) (order : List Cls) (made : Nat) (s : State) :
    UnchangedExcept [.records, .lists, .skip, .tickets, .pool] s
      (State.walk rd offered order made s).state := by
  exact State.walk_induction
    (fun u c hu => hu.chain (.of_parts fun p => by cases p <;> simp [Part.Same]))
    (fun u h r hu _ _ => hu.chain (.of_parts fun p => by cases p <;> simp [Part.Same]))
    (fun u t rest h r limit hu _ _ _ => hu.chain (.of_parts fun p => by cases p <;> simp [Part.Same]))
    order made s (.refl _ s)

/-! ### The holders of the tickets -/

/-- The handle a ticket is ISSUED to, none while it is FREE (R117). -/
def Ticket.holder (t : Ticket) : Option Nat := t.issue.map Issue.holder

/-- The holders of the tickets, by number. -/
def State.holders (s : State) : List (Option Nat) := s.tickets.toList.map Ticket.holder

theorem State.holders_length (s : State) : s.holders.length = 24 := by
  simp [State.holders]

theorem State.holders_get (s : State) (n : Nat) : (s.holders[n]?).join = (s.ticket n).holder := by
  simp only [State.holders, List.getElem?_map, Vector.getElem?_toList, State.ticket]
  cases s.tickets[n]? <;> rfl

theorem State.issued_iff (s : State) (n : Nat) :
    (s.ticket n).issued = true ↔ (s.holders[n]?).join ≠ none := by
  rw [State.holders_get, Ticket.issued, Ticket.holder]
  cases (s.ticket n).issue <;> simp

theorem State.issuedTo_eq_count (s : State) (h : Nat) : s.issuedTo h = s.holders.count (some h) := by
  rw [State.issuedTo, State.holders, List.count, List.countP_map]
  congr 1
  funext t
  simp only [Function.comp, Ticket.holder]
  cases t.issue <;> simp

theorem State.holders_putTicket (s : State) (n : Nat) (t : Ticket) :
    (s.putTicket n t).holders = s.holders.set n t.holder := by
  rw [State.holders, State.putTicket_tickets, Vector.toList_setIfInBounds, List.map_set]
  rfl

theorem State.holders_returnTicket (s : State) (n : Nat) :
    (s.returnTicket n).holders = s.holders.set n none :=
  s.holders_putTicket n _

theorem State.holders_returnAll (s : State) : s.returnAll.holders = List.replicate 24 none := by
  refine List.eq_replicate_iff.2 ⟨s.returnAll.holders_length, fun o ho => ?_⟩
  simp only [State.holders, State.returnAll_tickets, Vector.toList_map, List.map_map,
    List.mem_map] at ho
  obtain ⟨t, -, rfl⟩ := ho
  rfl

theorem State.holders_passTime (s : State) (dt : Nat) : (s.passTime dt).holders = s.holders := by
  refine List.ext_getElem (by simp [State.holders]) fun n _ _ => ?_
  simp [State.holders, Ticket.holder, Ticket.after, Function.comp_def]

theorem State.holders_congr {s t : State} (h : t.tickets = s.tickets) : t.holders = s.holders := by
  simp only [State.holders, h]

/-! ### Moves that leave the table as it is -/

/-- Two states have the same Station Table: records, lists, the background-skip counter, the holders of the
tickets, the free pool, the Stranger Filter and the class settings. -/
structure State.SameTable (s t : State) : Prop where
  records : t.records = s.records
  lists : t.lists = s.lists
  skip : t.skip = s.skip
  holders : t.holders = s.holders
  pool : t.pool = s.pool
  strangers : t.strangers = s.strangers
  classes : t.settings.classes = s.settings.classes

/-- The works that write a record anew, move it to another class, or change the class settings. -/
inductive State.Rewrite (s : State) : State → Prop
  | admission {a : Admission} {h : Nat} (stranger : s.indexLookup a.address = none)
      (room : s.occupancy a.cls < (s.classSettings a.cls).capacity) (free : s.lowestFree = some h) :
      s.Rewrite (s.admitAt a h)
  | amend {h : Nat} {a : Amendment} {r : Record} (own : s.record h = some r) (living : r.living = true)
      (room : s.classItemFull r a.cls = false) : s.Rewrite (s.applyAmendment h a)
  | setClass {c : Cls} {i : ClassItems}
      (room : i.capacity.isSome = true → s.occupancy c ≤ (i.apply (s.classSettings c)).capacity) :
      s.Rewrite (s.applyClass c i)
  | reset : s.Rewrite State.reset

/-- What a move does to the Station Table, what it does to the rest of the part apart. -/
inductive State.TableWork (s : State) : State → Prop
  | nothing : s.TableWork s
  | medium {b : MessageBody} {u : State} (work : s.MediumWork b u) : s.TableWork u
  | expiry {u : State} (work : s.ExpiryWork u) : s.TableWork u
  | sweep {u : State} (work : s.SweepWork u) : s.TableWork u
  | retire {h : Nat} {r : Record} (own : s.record h = some r) : s.TableWork (s.retire h .host)
  | clearMarks {h : Nat} {r : Record} (own : s.record h = some r) :
      s.TableWork (s.putRecord h (some r.clearMarks))
  | resetAccounts : s.TableWork
      { s.mapRecords (fun r => r.resetAccount (s.classSettings r.cls)) with
        skip := 0
        gov := s.gov.resetAccounts }
  | rewrite {u : State} (work : s.Rewrite u) : s.TableWork u

theorem State.SameTable.of_fields {s t : State} (records : t.records = s.records := by simp)
    (lists : t.lists = s.lists := by simp) (skip : t.skip = s.skip := by simp)
    (tickets : t.tickets = s.tickets := by simp) (pool : t.pool = s.pool := by simp)
    (strangers : t.strangers = s.strangers := by simp)
    (classes : t.settings.classes = s.settings.classes := by simp) : s.SameTable t :=
  ⟨records, lists, skip, State.holders_congr tickets, pool, strangers, classes⟩

theorem State.workMessage_sameTable (s : State) (m : RawMessage) : s.SameTable (s.workMessage m) := by
  rw [State.workMessage]
  split
  · exact .of_fields
  · split <;> exact .of_fields

theorem State.ticketDue_sameTable (s : State) : s.SameTable s.ticketDue := by
  rw [State.ticketDue]
  split <;> exact .of_fields

theorem State.periodExpired_sameTable (s : State) : s.SameTable s.periodExpired := by
  simp only [State.periodExpired]
  split <;> exact .of_fields

theorem State.startRequest_sameTable (s : State) (r : Request) : s.SameTable (s.startRequest r) := by
  rw [State.startRequest]
  split <;> exact .of_fields

theorem State.passTime_sameTable (s : State) (n : Nat) : s.SameTable (s.passTime n) :=
  { State.SameTable.of_fields (s := s) (t := { s.passTime n with tickets := s.tickets }) with
    holders := s.holders_passTime n }

/-- What a request does to the table. -/
theorem State.HostWork.table {s u : State} {r : Request} (work : s.HostWork r u) :
    ∃ v, s.TableWork v ∧ v.SameTable u := by
  cases work with
  | nothing => exact ⟨s, .nothing, .of_fields⟩
  | admission stranger room free => exact ⟨_, .rewrite (.admission stranger room free), .of_fields⟩
  | amend own living room => exact ⟨_, .rewrite (.amend own living room), .of_fields⟩
  | retire own living => exact ⟨_, .retire own, .of_fields⟩
  | clearMarks own => exact ⟨_, .clearMarks own, .of_fields⟩
  | setClass room => exact ⟨_, .rewrite (.setClass room), .of_fields⟩
  | resetAccounts => exact ⟨_, .resetAccounts, .of_fields⟩
  | setTierWrite | setTierInvalidate | setScheduler | setPresence | setGovernor | setNotice
  | readGovernor | hold | fetchNotices => exact ⟨s, .nothing, .of_fields⟩

theorem State.SameTable.trans {s t u : State} (h : s.SameTable t) (g : t.SameTable u) : s.SameTable u :=
  ⟨g.records.trans h.records, g.lists.trans h.lists, g.skip.trans h.skip, g.holders.trans h.holders,
    g.pool.trans h.pool, g.strangers.trans h.strangers, g.classes.trans h.classes⟩

/-- What a move does to the table, said once. -/
theorem State.Move.table {s t : State} (move : s.Move t) : ∃ u, s.TableWork u ∧ u.SameTable t := by
  cases move with
  | time n => exact ⟨s, .nothing, s.passTime_sameTable n⟩
  | word | read | link | refused | pins => exact ⟨s, .nothing, .of_fields⟩
  | windowEnded => exact ⟨s, .nothing, by rw [State.windowEnded]; exact .of_fields⟩
  | coalesceExpired => exact ⟨s, .nothing, by rw [State.coalesceExpired]; exact .of_fields⟩
  | @take m rest can head =>
    exact ⟨s, .nothing, State.SameTable.trans
      (t := { s with medium := { s.medium with inbound := rest } }) .of_fields
      (State.workMessage_sameTable _ m)⟩
  | medium a holder held work => exact ⟨_, .medium work, .of_fields⟩
  | host a port work =>
    obtain ⟨v, done, same⟩ := work.table
    exact ⟨v, done, same.trans .of_fields⟩
  | direct a port tableless work =>
    obtain ⟨v, done, same⟩ := work.table
    exact ⟨v, done, same.trans .of_fields⟩
  | expiry work => exact ⟨_, .expiry work, .of_fields⟩
  | sweep pass work => exact ⟨_, .sweep work, .of_fields⟩
  | ticketDue => exact ⟨s, .nothing, s.ticketDue_sameTable⟩
  | periodExpired => exact ⟨s, .nothing, s.periodExpired_sameTable⟩
  | submitted => exact ⟨s, .nothing, s.startRequest_sameTable _⟩
  | reset port pending blocks =>
    exact ⟨_, .rewrite .reset, .of_fields (blocks .records (by decide)) blocks.lists blocks.skip
      blocks.tickets blocks.pool blocks.strangers (congrArg Settings.classes blocks.settings)⟩

end Sys2Proof.Machine
end

section
/-! PROOF. What the works keep of a record: its address, its class, that it does not come back to life, and
the bounds of its account; with this the laws of the address index, the Stranger Filter, the class
occupancies and the balances. -/

namespace Sys2Proof.Machine

/-! ### The table as a list -/

theorem State.records_toList (s : State) : s.records.toList = (List.range 640).map s.record := by
  refine List.ext_getElem (by simp) fun n h _ => ?_
  have hn : n < 640 := by simpa using h
  simp [State.record, hn]

theorem State.tickets_toList (s : State) : s.tickets.toList = (List.range 24).map s.ticket := by
  refine List.ext_getElem (by simp) fun n h _ => ?_
  have hn : n < 24 := by simpa using h
  simp [State.ticket, hn]

theorem State.record_reset (h : Nat) : State.reset.record h = none := by
  simp only [State.record, State.reset]; grind

theorem State.ticket_of_reset (n : Nat) : State.reset.ticket n = ⟨0, none⟩ := by
  simp only [State.ticket, State.reset]; grind

/-- The lowest FREE handle is a handle, and FREE (R1). -/
theorem State.record_lowestFree {s : State} {h : Nat} (free : s.lowestFree = some h) :
    h < 640 ∧ s.record h = none := by
  rw [State.lowestFree, State.records_toList, List.findIdx?_eq_some_iff_getElem] at free
  obtain ⟨hl, hn, -⟩ := free
  simp only [List.length_map, List.length_range] at hl
  exact ⟨hl, by simpa using hn⟩

/-- An index lookup finds a living record of the address (R15). -/
theorem State.record_indexLookup {s : State} {a : Address} {h : Nat} (found : s.indexLookup a = some h) :
    ∃ r, s.record h = some r ∧ r.living = true ∧ r.address = a := by
  rw [State.indexLookup, State.records_toList, List.findIdx?_eq_some_iff_getElem] at found
  obtain ⟨hl, hn, -⟩ := found
  simp only [List.getElem_map, List.getElem_range] at hn
  split at hn
  · rename_i r hr
    exact ⟨r, hr, by simpa using hn⟩
  · cases hn

/-- An index lookup finds nothing exactly when no living record has the address (R15). -/
theorem State.indexLookup_eq_none {s : State} {a : Address} :
    s.indexLookup a = none ↔ ∀ h r, s.record h = some r → r.living = true → r.address ≠ a := by
  simp only [State.indexLookup, State.records_toList, List.findIdx?_eq_none_iff, List.mem_map,
    List.mem_range, forall_exists_index, and_imp]
  constructor
  · intro none h r hr living same
    have := none _ h (State.lt_of_record hr) rfl
    simp [hr, living, same] at this
  · rintro none _ h - rfl
    split
    · rename_i r hr
      have := none h r hr
      grind
    · rfl

/-! ### What every work keeps of a record -/

/-- A record's account is in its bounds (R86). -/
def Record.AccountIn (r : Record) (cap : Nat) : Prop :=
  -32768 ≤ r.lowest ∧ r.lowest ≤ r.balance ∧ r.balance ≤ cap

/-- What a work keeps of a record in a class of these settings: address and class, that it does not become
living, and, the settings being in range, that its account is in its bounds. -/
structure Record.Kept (c : ClassSettings) (r q : Record) : Prop where
  address : q.address = r.address
  cls : q.cls = r.cls
  living : q.living = true → r.living = true
  account : c.InRange → r.AccountIn c.balanceCap → q.AccountIn c.balanceCap

theorem Record.Kept.refl (c : ClassSettings) (r : Record) : r.Kept c r := ⟨rfl, rfl, id, fun _ => id⟩

theorem Record.Kept.trans {c : ClassSettings} {r q p : Record} (h : r.Kept c q) (g : q.Kept c p) :
    r.Kept c p :=
  ⟨g.address.trans h.address, g.cls.trans h.cls, h.living ∘ g.living,
    fun range => g.account range ∘ h.account range⟩

/-- A change that touches neither identity nor account nor state. -/
theorem Record.Kept.of_fields {c : ClassSettings} {r q : Record} (state : q.state = r.state)
    (address : q.address = r.address) (cls : q.cls = r.cls) (balance : q.balance = r.balance)
    (lowest : q.lowest = r.lowest) : r.Kept c q :=
  ⟨address, cls, by simp [Record.living, state], fun _ h => by
    simpa [Record.AccountIn, balance, lowest] using h⟩

theorem Record.charge_kept (c : ClassSettings) (r : Record) (n : Nat) : r.Kept c (r.charge n) := by
  refine ⟨rfl, rfl, id, fun range account => ?_⟩
  obtain ⟨low, mid, high⟩ := account
  simp only [Record.AccountIn, Record.charge, Record.setBalance, Config.lowestBalance]
  omega

theorem Record.afterCompletion_kept (c : ClassSettings) (r : Record) (k : Completion) :
    r.Kept c (r.afterCompletion k) := .of_fields rfl rfl rfl rfl rfl

theorem Record.afterExpiry_kept (c : ClassSettings) (r : Record) (n : Nat) :
    r.Kept c (r.afterExpiry n) :=
  (r.charge_kept c n).trans (.of_fields rfl rfl rfl rfl rfl)

theorem RecordState.afterHeard_retiring {st : RecordState} {p : PsMark} {cause : DrainCause} :
    st.afterHeard p = .retiring cause ↔ st = .retiring cause := by
  cases st <;> cases p <;> simp [RecordState.afterHeard]

theorem Record.living_congr {r q : Record}
    (h : ∀ cause, q.state = .retiring cause ↔ r.state = .retiring cause) : q.living = r.living := by
  simp only [Record.living]
  cases hr : r.state <;> cases hq : q.state <;> simp_all

theorem Record.afterHeard_living (r : Record) (c : ClassSettings) (h : Hearing) :
    (r.afterHeard c h).living = r.living :=
  Record.living_congr fun _ => RecordState.afterHeard_retiring

theorem Record.afterHeard_kept (c : ClassSettings) (r : Record) (h : Hearing) :
    r.Kept c (r.afterHeard c h) :=
  ⟨rfl, rfl, by simp [Record.afterHeard_living], fun _ => id⟩

theorem Record.setBacklog_kept (c : ClassSettings) (r : Record) (n : Nat) : r.Kept c (r.setBacklog n) :=
  .of_fields rfl rfl rfl rfl rfl

theorem Record.clearMarks_kept (c : ClassSettings) (r : Record) : r.Kept c r.clearMarks := by
  refine ⟨rfl, rfl, id, fun range account => ?_⟩
  obtain ⟨low, mid, high⟩ := account
  simp only [Record.AccountIn, Record.clearMarks]
  omega

theorem Record.resetAccount_kept (c : ClassSettings) (r : Record) : r.Kept c (r.resetAccount c) := by
  refine ⟨rfl, rfl, id, fun range account => ?_⟩
  obtain ⟨-, -, -, -, -, initial, -, -⟩ := range
  simp only [Record.AccountIn, Record.resetAccount]
  omega

theorem Record.drained_kept {c : ClassSettings} {r q : Record} (h : r.drained = some q) : r.Kept c q := by
  rw [Record.drained] at h
  split at h
  · cases h
  · cases h
    exact .refl c r

theorem Record.retired_kept {c : ClassSettings} {r q : Record} {cause : DrainCause}
    (h : r.retired cause = some q) : r.Kept c q := by
  rw [Record.retired] at h
  split at h
  · cases h
  · cases h
    exact ⟨rfl, rfl, by simp [Record.living], fun _ => id⟩

theorem Record.grownOld_kept {c : ClassSettings} {r q : Record} {auto : Bool}
    (h : r.grownOld auto = some q) : r.Kept c q := by
  have old : r.Kept c { r with linger := 0, aged := true } := .of_fields rfl rfl rfl rfl rfl
  rw [Record.grownOld] at h
  split at h
  · exact old.trans (Record.retired_kept h)
  · cases h
    exact old

theorem State.toppedUp_kept (s : State) (r : Record) : r.Kept (s.classSettings r.cls) (s.toppedUp r) := by
  rw [State.toppedUp]
  split
  · exact .refl _ r
  · rename_i e _
    refine ⟨rfl, rfl, id, fun range account => ?_⟩
    obtain ⟨low, mid, high⟩ := account
    simp only [Record.AccountIn]
    have gain : (0 : Int) ≤ (e.quantum : Int) * r.weight := by positivity
    omega

/-! ### What every work keeps of the records -/

/-- Every record that is not FREE was not FREE before and is kept; the class settings are as they were. -/
structure State.RecordsKept (s t : State) : Prop where
  classes : t.settings.classes = s.settings.classes
  kept : ∀ h q, t.record h = some q → ∃ r, s.record h = some r ∧ r.Kept (s.classSettings r.cls) q

theorem State.RecordsKept.of_records {s t : State} (records : t.records = s.records)
    (classes : t.settings.classes = s.settings.classes) : s.RecordsKept t :=
  ⟨classes, fun h q hq => ⟨q, (State.record_congr records h).symm.trans hq, .refl _ q⟩⟩

theorem State.RecordsKept.trans {s t u : State} (h : s.RecordsKept t) (g : t.RecordsKept u) :
    s.RecordsKept u := by
  refine ⟨g.classes.trans h.classes, fun k p hp => ?_⟩
  obtain ⟨q, hq, later⟩ := g.kept k p hp
  obtain ⟨r, hr, first⟩ := h.kept k q hq
  refine ⟨r, hr, first.trans ?_⟩
  simpa [State.classSettings, h.classes, first.cls] using later

theorem State.RecordsKept.of_one {s t : State} {h : Nat} {r : Record} {o : Option Record}
    (own : s.record h = some r) (one : OneRecord s t h o)
    (classes : t.settings.classes = s.settings.classes)
    (here : ∀ q, o = some q → r.Kept (s.classSettings r.cls) q) : s.RecordsKept t := by
  refine ⟨classes, fun k q hq => ?_⟩
  by_cases hk : k = h
  · subst hk
    exact ⟨r, own, here q (one.own.symm.trans hq)⟩
  · exact ⟨q, (one.others k hk).symm.trans hq, .refl _ q⟩

theorem State.RecordsKept.of_map {s t : State} {f : Record → Record}
    (records : t.records = s.records.map (Option.map f))
    (classes : t.settings.classes = s.settings.classes)
    (each : ∀ r : Record, r.Kept (s.classSettings r.cls) (f r)) : s.RecordsKept t := by
  refine ⟨classes, fun h q hq => ?_⟩
  have mapped : t.record h = (s.record h).map f :=
    (State.record_congr (s := s.mapRecords f) records h).trans (s.record_mapRecords f h)
  obtain ⟨r, hr, rfl⟩ := Option.map_eq_some_iff.1 (mapped.symm.trans hq)
  exact ⟨r, hr, each r⟩

theorem State.charge_none {s : State} {h : Nat} (free : s.record h = none) (n : Nat) :
    s.charge h n = s := by
  simp [State.charge, free]

theorem State.endDrain_none {s : State} {h : Nat} (free : s.record h = none) : s.endDrain h = s := by
  simp [State.endDrain, free]

theorem State.judge_none {s : State} {h : Nat} (free : s.record h = none) : s.judge h = s := by
  simp [State.judge, free]

/-- A completion for a FREE handle returns the ticket only. -/
theorem State.acceptCompletion_none {s : State} {h : Nat} (free : s.record h = none) (c : Completion) :
    s.acceptCompletion c h = s.returnTicket c.ticket := by
  have returned : (s.returnTicket c.ticket).record h = none :=
    (State.record_congr (s.returnTicket_records c.ticket) h).trans free
  rw [State.acceptCompletion, State.charge_none returned, State.updateRecord_none returned,
    State.judge_none returned, State.endDrain_none returned]

/-- An expiry for a FREE handle returns the ticket and makes its notice only. -/
theorem State.expire_none {s : State} {n : Nat} {i : Issue} (free : s.record i.holder = none) :
    s.expire n i = (s.returnTicket n).notify (.expired i.holder none n i.limit) := by
  have returned : (s.returnTicket n).record i.holder = none :=
    (State.record_congr (s.returnTicket_records n) i.holder).trans free
  have noted : ((s.returnTicket n).notify (.expired i.holder none n i.limit)).record i.holder = none :=
    (State.record_congr rfl i.holder).trans returned
  rw [State.expire, State.charge_none returned, State.updateRecord_none returned, State.labelOf, free,
    Option.bind_none, State.endDrain_none noted]

theorem slotAfterResync_some {o : Option Record} {q : Record} (h : slotAfterResync o = some q) :
    ∃ r, o = some r ∧ r.living = true ∧ q = { r with held := 0 } := by
  cases o with
  | none => cases h
  | some r =>
    cases living : r.living with
    | false => simp [slotAfterResync, Record.isRetiring, living] at h
    | true =>
      refine ⟨r, rfl, living, ?_⟩
      simpa [slotAfterResync, Record.isRetiring, living, eq_comm] using h

@[simp] theorem State.resynced_records (s : State) :
    s.resynced.records = s.records.map slotAfterResync := by
  simp [State.resynced]

theorem State.record_resynced (s : State) (h : Nat) :
    s.resynced.record h = slotAfterResync (s.record h) := by
  have none_kept : slotAfterResync none = none := rfl
  simp only [State.record, State.resynced_records]
  grind

theorem State.MediumWork.recordsKept {s u : State} {b : MessageBody} (work : s.MediumWork b u) :
    s.RecordsKept u := by
  cases work with
  | nothing => exact .of_records rfl rfl
  | visits offered =>
    refine State.walk_induction (P := s.RecordsKept) (fun u c hu => hu.trans (.of_records rfl rfl))
      (fun u h r hu own low => hu.trans (.of_one own (.putRecord own _) rfl ?_))
      (fun u t rest h r limit hu _ own _ => hu.trans (.of_one own (.issueTo own limit) rfl ?_))
      _ _ _ (.of_records rfl rfl)
    · rintro q ⟨⟩
      exact u.toppedUp_kept r
    · rintro q ⟨⟩
      exact .of_fields rfl rfl rfl rfl rfl
  | @completion c i issued =>
    cases own : s.record i.holder with
    | none => exact .of_records (by simp [State.acceptCompletion_none own]) (by simp)
    | some r =>
      exact .of_one own (.acceptCompletion own c) (by simp) fun q hq =>
        (r.charge_kept _ _).trans ((Record.afterCompletion_kept _ _ _).trans (Record.drained_kept hq))
  | @heard h n known =>
    obtain ⟨r, own, -, -⟩ := State.record_indexLookup known
    refine .of_one own (.heard own _) (by simp) ?_
    rintro q ⟨⟩
    exact r.afterHeard_kept _ h
  | stranger => exact .of_records (by simp) (by simp)
  | @demand h n r own =>
    refine .of_one own ((OneRecord.putRecord own _).of_records (State.judge_records _ h)) (by simp) ?_
    rintro q ⟨⟩
    exact r.setBacklog_kept _ n
  | resync =>
    refine ⟨by simp [State.resynced], fun h q hq => ?_⟩
    obtain ⟨r, own, -, rfl⟩ := slotAfterResync_some ((s.record_resynced h).symm.trans hq)
    exact ⟨r, own, .of_fields rfl rfl rfl rfl rfl⟩

theorem State.ExpiryWork.recordsKept {s u : State} (work : s.ExpiryWork u) : s.RecordsKept u := by
  cases work with
  | nothing => exact .of_records rfl rfl
  | @expire n i issued =>
    cases own : s.record i.holder with
    | none => exact .of_records (by simp [State.expire_none own]) (by simp)
    | some r =>
      exact .of_one own (.expire own) (by simp) fun q hq =>
        (r.afterExpiry_kept _ _).trans (Record.drained_kept hq)

theorem State.SweepWork.recordsKept {s u : State} (work : s.SweepWork u) : s.RecordsKept u := by
  cases work with
  | nothing => exact .of_records rfl rfl
  | age own living => exact .of_one own (.age own) (by simp) fun q hq => Record.grownOld_kept hq
  | count own =>
    refine .of_one own (.putRecord own _) rfl ?_
    rintro q ⟨⟩
    exact .of_fields rfl rfl rfl rfl rfl

/-- A work keeps the records or is one of the four that write them anew. -/
theorem State.TableWork.recordsKept {s u : State} (work : s.TableWork u) :
    s.RecordsKept u ∨ s.Rewrite u := by
  cases work with
  | nothing => exact .inl (.of_records rfl rfl)
  | medium work => exact .inl work.recordsKept
  | expiry work => exact .inl work.recordsKept
  | sweep work => exact .inl work.recordsKept
  | retire own => exact .inl (.of_one own (.retire own .host) (by simp) fun q => Record.retired_kept)
  | @clearMarks h r own =>
    refine .inl (.of_one own (.putRecord own _) rfl ?_)
    rintro q ⟨⟩
    exact r.clearMarks_kept _
  | resetAccounts =>
    exact .inl (.of_map (f := fun r => r.resetAccount (s.classSettings r.cls)) rfl rfl
      fun r => r.resetAccount_kept _)
  | rewrite work => exact .inr work

/-! ### The works that write records anew -/

/-- The records after an admission: a new one at a handle that was FREE (R28). -/
theorem State.record_admitAt {s : State} {a : Admission} {h : Nat} (free : s.lowestFree = some h)
    (k : Nat) : (s.admitAt a h).record k =
      if h = k then some (a.newRecord (s.classSettings a.cls)) else s.record k := by
  have put : (s.admitAt a h).record k =
      (s.putRecord h (some (a.newRecord (s.classSettings a.cls)))).record k := State.record_congr rfl k
  simp [put, State.record_putRecord, (State.record_lowestFree free).1]

/-- The records after a SET_CLASS: those of the class clipped where its cap is lowered (R36). -/
theorem State.record_applyClass (s : State) (c : Cls) (i : ClassItems) (h : Nat) :
    (s.applyClass c i).record h = (s.record h).map fun r =>
      if (i.apply (s.classSettings c)).balanceCap < (s.classSettings c).balanceCap ∧ r.cls = c
      then r.clip (i.apply (s.classSettings c)).balanceCap else r := by
  simp only [State.applyClass]
  split
  · rename_i lower
    simp only [lower, true_and]
    exact State.record_mapRecords _ _ h
  · rename_i same
    simp only [same, false_and, if_false, Option.map_id']
    exact State.record_congr rfl h

theorem State.applyClass_classes (s : State) (c : Cls) (i : ClassItems) :
    (s.applyClass c i).settings.classes = s.settings.classes.set c (i.apply (s.classSettings c)) := by
  simp only [State.applyClass]
  split <;> rfl

theorem State.classSettings_applyClass (s : State) (c d : Cls) (i : ClassItems) :
    (s.applyClass c i).classSettings d =
      if c = d then i.apply (s.classSettings c) else s.classSettings d := by
  simp only [State.classSettings, State.applyClass_classes, ClassMap.get_set]

theorem Record.clip_station (r : Record) (cap : Nat) :
    (r.clip cap).address = r.address ∧ (r.clip cap).cls = r.cls ∧ (r.clip cap).state = r.state := by
  rw [Record.clip]
  split <;> exact ⟨rfl, rfl, rfl⟩

theorem RecordState.amendBarredBy_retiring {st : RecordState} {on : Option Bool} {p : PsMark}
    {cause : DrainCause} : st.amendBarredBy on p = .retiring cause ↔ st = .retiring cause := by
  cases on with
  | none => rfl
  | some on => cases st <;> cases on <;> cases p <;> simp [RecordState.amendBarredBy, RecordState.amendBarred]

theorem Record.inClass_station (r : Record) (g : Settings) (c : Option Cls) :
    (r.inClass g c).address = r.address ∧ (r.inClass g c).state = r.state := by
  cases c with
  | none => exact ⟨rfl, rfl⟩
  | some c =>
    simp only [Record.inClass]
    split
    · exact ⟨rfl, rfl⟩
    · have := Record.clip_station { r with cls := c } (g.classes.get c).balanceCap
      exact ⟨this.1, this.2.2⟩

theorem Record.inClass_cls (r : Record) (g : Settings) (c : Option Cls) :
    (r.inClass g c).cls = c.getD r.cls := by
  cases c with
  | none => rfl
  | some c =>
    simp only [Record.inClass]
    split
    · rename_i same
      exact same.symm
    · exact (Record.clip_station { r with cls := c } _).2.1

theorem Record.amendBalance_station (r : Record) (c : ClassSettings) (present : Bool) :
    (r.amendBalance c present).address = r.address ∧ (r.amendBalance c present).cls = r.cls ∧
      (r.amendBalance c present).state = r.state := by
  rw [Record.amendBalance]
  split <;> exact ⟨rfl, rfl, rfl⟩

theorem Record.amended_cls (r : Record) (g : Settings) (a : Amendment) :
    (r.amended g a).cls = a.cls.getD r.cls :=
  (Record.amendBalance_station _ _ _).2.1.trans (r.inClass_cls g a.cls)

/-- An AMEND keeps the address, and a record that is living (R37). -/
theorem Record.amended_station (r : Record) (g : Settings) (a : Amendment) :
    (r.amended g a).address = r.address ∧ (r.amended g a).living = r.living := by
  obtain ⟨address, -, state⟩ := Record.amendBalance_station (r.inClass g a.cls)
    (g.classes.get (r.inClass g a.cls).cls) a.toInitial
  obtain ⟨address', state'⟩ := r.inClass_station g a.cls
  refine ⟨address.trans address', Record.living_congr fun cause => ?_⟩
  simp only [Record.amended, Record.amendFields, RecordState.amendBarredBy_retiring, state, state']

/-! ### The address index and the Stranger Filter -/

/-- Every record that is not FREE had its address before, and is living only if it was. -/
def State.StationsKept (s t : State) : Prop :=
  ∀ h q, t.record h = some q →
    ∃ r, s.record h = some r ∧ q.address = r.address ∧ (q.living = true → r.living = true)

theorem State.RecordsKept.stations {s t : State} (h : s.RecordsKept t) : s.StationsKept t := fun k q hq =>
  let ⟨r, own, kept⟩ := h.kept k q hq
  ⟨r, own, kept.address, kept.living⟩

theorem State.StationsKept.of_amend {s : State} {h : Nat} {r : Record} (own : s.record h = some r)
    (a : Amendment) : s.StationsKept (s.applyAmendment h a) := by
  intro k q hq
  have one := OneRecord.applyAmendment own a
  by_cases hk : k = h
  · subst hk
    cases one.own.symm.trans hq
    obtain ⟨address, living⟩ := r.amended_station s.settings a
    exact ⟨r, own, address, by simp [living]⟩
  · exact ⟨q, (one.others k hk).symm.trans hq, rfl, id⟩

theorem State.StationsKept.of_setClass (s : State) (c : Cls) (i : ClassItems) :
    s.StationsKept (s.applyClass c i) := by
  intro h q hq
  rw [State.record_applyClass] at hq
  obtain ⟨r, own, rfl⟩ := Option.map_eq_some_iff.1 hq
  refine ⟨r, own, ?_⟩
  split
  · obtain ⟨address, -, state⟩ := r.clip_station (i.apply (s.classSettings c)).balanceCap
    exact ⟨address, by simp [Record.living, state]⟩
  · exact ⟨rfl, id⟩

theorem State.IndexLaw.of_stations {s t : State} (kept : s.StationsKept t) (law : s.IndexLaw) :
    t.IndexLaw := by
  intro h k r q hr hq living living' same
  obtain ⟨r', own, address, was⟩ := kept h r hr
  obtain ⟨q', own', address', was'⟩ := kept k q hq
  exact law h k r' q' own own' (was living) (was' living')
    (address.symm.trans (same.trans address'))

theorem State.reset_indexLaw : State.reset.IndexLaw := fun h k r q hr => by
  simp [State.record_reset] at hr

theorem State.Rewrite.indexLaw {s u : State} (work : s.Rewrite u) (law : s.IndexLaw) : u.IndexLaw := by
  cases work with
  | @admission a h stranger room free =>
    rw [State.indexLookup_eq_none] at stranger
    intro j k r q hr hq living living' same
    rw [State.record_admitAt free] at hr hq
    split at hr <;> split at hq
    · omega
    · cases hr
      exact absurd same.symm (stranger k q hq living')
    · cases hq
      exact absurd same (stranger j r hr living)
    · exact law j k r q hr hq living living' same
  | amend own living room => exact law.of_stations (.of_amend own _)
  | setClass => exact law.of_stations (.of_setClass s _ _)
  | reset => exact State.reset_indexLaw

theorem State.TableWork.indexLaw {s u : State} (work : s.TableWork u) (law : s.IndexLaw) : u.IndexLaw :=
  work.recordsKept.elim (fun kept => law.of_stations kept.stations) fun rewrite => rewrite.indexLaw law

/-- Every move keeps the addresses of living records apart (R14). -/
theorem State.Move.indexLaw {s t : State} (move : s.Move t) (law : s.IndexLaw) : t.IndexLaw := by
  obtain ⟨u, work, same⟩ := move.table
  exact (work.indexLaw law).of_stations (State.RecordsKept.of_records same.records same.classes).stations

theorem State.FilterLaw.of_stations {s t : State} (kept : s.StationsKept t)
    (strangers : t.strangers = s.strangers) (law : s.FilterLaw) : t.FilterLaw := by
  refine ⟨strangers ▸ law.short, strangers ▸ law.nodup, fun h q hq living => ?_⟩
  obtain ⟨r, own, address, was⟩ := kept h q hq
  rw [strangers, address]
  exact law.strange h r own (was living)

theorem State.reset_filterLaw : State.reset.FilterLaw :=
  ⟨by decide, by decide, fun h r hr => by simp [State.record_reset] at hr⟩

theorem filterAppend_mem {f : List Address} {a b : Address} (h : b ∈ filterAppend f a) : b ∈ f ∨ b = a := by
  rw [filterAppend] at h
  split at h
  · rcases List.mem_append.1 h with hb | hb
    · exact .inl (List.mem_of_mem_drop hb)
    · exact .inr (List.mem_singleton.1 hb)
  · rcases List.mem_append.1 h with hb | hb
    · exact .inl hb
    · exact .inr (List.mem_singleton.1 hb)

theorem filterAppend_nodup {f : List Address} {a : Address} (nodup : f.Nodup) (new : a ∉ f) :
    (filterAppend f a).Nodup := by
  rw [filterAppend]
  split
  · have gone : a ∉ f.drop 1 := fun h => new (List.mem_of_mem_drop h)
    exact List.nodup_append.2 ⟨nodup.sublist (List.drop_sublist 1 f), List.nodup_singleton a, by grind⟩
  · exact List.nodup_append.2 ⟨nodup, List.nodup_singleton a, by grind⟩

theorem filterAppend_length {f : List Address} {a : Address} (short : f.length ≤ 8) :
    (filterAppend f a).length ≤ 8 := by
  simp only [filterAppend, Config.filterDepth]
  split <;> simp <;> omega

theorem State.MediumWork.filterLaw {s u : State} {b : MessageBody} (work : s.MediumWork b u)
    (law : s.FilterLaw) : u.FilterLaw := by
  have kept := work.recordsKept.stations
  cases work with
  | nothing => exact law
  | visits offered =>
    exact law.of_stations kept (State.walk_frame _ _ _ _ s).strangers
  | completion | heard | demand => exact law.of_stations kept (by simp)
  | resync => exact law.of_stations kept s.resynced_frame.strangers
  | @stranger h unknown new =>
    rw [State.indexLookup_eq_none] at unknown
    refine ⟨filterAppend_length law.short, filterAppend_nodup law.nodup new, fun k q hq living held => ?_⟩
    obtain ⟨r, own, address, was⟩ := kept k q hq
    rcases filterAppend_mem held with old | fresh
    · exact law.strange k r own (was living) (address ▸ old)
    · exact unknown k r own (was living) (address.symm.trans fresh)

theorem State.Rewrite.filterLaw {s u : State} (work : s.Rewrite u) (law : s.FilterLaw) : u.FilterLaw := by
  cases work with
  | @admission a h stranger room free =>
    refine ⟨List.length_erase_le.trans law.short, law.nodup.erase _, fun k r hr living held => ?_⟩
    rw [State.record_admitAt free] at hr
    split at hr
    · cases hr
      exact law.nodup.not_mem_erase held
    · exact law.strange k r hr living (List.mem_of_mem_erase held)
  | amend own living room =>
    exact law.of_stations (.of_amend own _) (s.applyAmendment_frame _ _).strangers
  | setClass =>
    exact law.of_stations (.of_setClass s _ _) (s.applyClass_frame _ _).strangers
  | reset => exact State.reset_filterLaw

theorem State.TableWork.filterLaw {s u : State} (work : s.TableWork u) (law : s.FilterLaw) :
    u.FilterLaw := by
  rcases work.recordsKept with kept | rewrite
  · cases work with
    | nothing => exact law
    | medium work => exact work.filterLaw law
    | expiry work => cases work <;> exact law.of_stations kept.stations (by simp)
    | sweep work => cases work <;> exact law.of_stations kept.stations (by simp)
    | retire | clearMarks | resetAccounts => exact law.of_stations kept.stations (by simp)
    | rewrite work => exact work.filterLaw law
  · exact rewrite.filterLaw law

/-- Every move keeps the Stranger Filter short, without repetition and apart from the index (R57). -/
theorem State.Move.filterLaw {s t : State} (move : s.Move t) (law : s.FilterLaw) : t.FilterLaw := by
  obtain ⟨u, work, same⟩ := move.table
  exact (work.filterLaw law).of_stations
    (State.RecordsKept.of_records same.records same.classes).stations same.strangers

/-! ### Class occupancies -/

/-- A slot of the table holds a record of a class. -/
def inClass (c : Cls) (slot : Option Record) : Bool := slot.any fun r => decide (r.cls = c)

theorem State.occupancy_eq_countP (s : State) (c : Cls) :
    s.occupancy c = s.records.toList.countP (inClass c) := by
  rw [State.occupancy]
  congr 1
  funext slot
  cases slot <;> rfl

/-- Records that keep their classes do not raise an occupancy. -/
theorem State.occupancy_le {s t : State}
    (kept : ∀ h q, t.record h = some q → ∃ r, s.record h = some r ∧ q.cls = r.cls) (c : Cls) :
    t.occupancy c ≤ s.occupancy c := by
  simp only [State.occupancy_eq_countP, State.records_toList, List.countP_map]
  refine List.countP_mono_left fun h _ hc => ?_
  simp only [Function.comp, inClass, Option.any_eq_true] at hc ⊢
  obtain ⟨q, hq, cls⟩ := hc
  obtain ⟨r, hr, same⟩ := kept h q hq
  exact ⟨r, hr, same ▸ cls⟩

/-- An occupancy after one slot of the table has changed. -/
theorem OneRecord.occupancy {s t : State} {h : Nat} {o : Option Record} (one : OneRecord s t h o)
    (lt : h < 640) (c : Cls) :
    t.occupancy c =
      s.occupancy c - (inClass c (s.record h)).toNat + (inClass c o).toNat := by
  have list : t.records.toList = s.records.toList.set h o := by
    refine List.ext_getElem (by simp) fun k hk _ => ?_
    simp only [State.records_toList, List.getElem_map, List.getElem_range, List.getElem_set]
    split
    · rename_i e
      exact e ▸ one.own
    · rename_i ne
      exact one.others k (Ne.symm ne)
  have lt' : h < s.records.toList.length := by simpa using lt
  have slot : s.records.toList[h] = s.record h := by simp [State.record, lt]
  rw [State.occupancy_eq_countP, State.occupancy_eq_countP, list, List.countP_set lt', slot]
  simp only [Bool.toNat, Bool.cond_eq_ite]

/-- A slot that holds a record of a class counts in its occupancy. -/
theorem State.occupancy_pos {s : State} {h : Nat} {r : Record} (own : s.record h = some r) :
    0 < s.occupancy r.cls := by
  rw [State.occupancy_eq_countP, State.records_toList, List.countP_pos_iff]
  exact ⟨s.record h, List.mem_map.2 ⟨h, List.mem_range.2 (State.lt_of_record own), rfl⟩, by
    simp [own, inClass]⟩

theorem State.OccupancyLaw.of_kept {s t : State} (kept : s.RecordsKept t) (law : s.OccupancyLaw) :
    t.OccupancyLaw := fun c => by
  have le := State.occupancy_le (fun h q hq =>
    let ⟨r, own, k⟩ := kept.kept h q hq
    ⟨r, own, k.cls⟩) c
  have same : t.classSettings c = s.classSettings c := by simp only [State.classSettings, kept.classes]
  rw [same]
  exact le.trans (law c)

theorem State.reset_occupancyLaw : State.reset.OccupancyLaw := fun c => by
  have none : State.reset.occupancy c = 0 := by
    rw [State.occupancy_eq_countP, State.records_toList, List.countP_eq_zero]
    intro slot mem
    obtain ⟨h, -, rfl⟩ := List.mem_map.1 mem
    simp [State.record_reset, inClass]
  omega

/-- A class item that is accepted names the record's own class or one with room (R39). -/
theorem State.classItemFull_eq_false {s : State} {r : Record} {c : Cls} :
    s.classItemFull r (some c) = false ↔ c = r.cls ∨ s.occupancy c < (s.classSettings c).capacity := by
  simp [State.classItemFull]
  tauto

theorem State.Rewrite.occupancyLaw {s u : State} (work : s.Rewrite u) (law : s.OccupancyLaw) :
    u.OccupancyLaw := by
  cases work with
  | @admission a h stranger room free =>
    intro c
    have here := State.record_lowestFree free
    have one : OneRecord s (s.admitAt a h) h (some (a.newRecord (s.classSettings a.cls))) :=
      ⟨by simp [State.record_admitAt free], fun k hk => by simp [State.record_admitAt free, Ne.symm hk]⟩
    rw [one.occupancy here.1, here.2, State.classSettings_congr (s.admitAt_frame a h).settings]
    have bound := law c
    by_cases hc : a.cls = c
    · subst hc
      simpa [inClass, Admission.newRecord] using room
    · simpa [inClass, Admission.newRecord, hc] using bound
  | @amend h a r own living room =>
    intro c
    have bound := law c
    rw [(OneRecord.applyAmendment own a).occupancy (State.lt_of_record own), own,
      State.classSettings_congr (s.applyAmendment_frame h a).settings]
    simp only [inClass, Option.any_some, Record.amended_cls]
    by_cases leaves : r.cls = c
    · have counted : 0 < s.occupancy c := leaves ▸ State.occupancy_pos own
      have one := Bool.toNat_le (decide (a.cls.getD r.cls = c))
      simp only [leaves, decide_true, Bool.toNat_true] at one ⊢
      omega
    · by_cases joins : a.cls = some c
      · have below := State.classItemFull_eq_false.1 (joins ▸ room)
        simp only [joins, Option.getD_some, decide_true, Bool.toNat_true, leaves, decide_false,
          Bool.toNat_false]
        rcases below with same | below
        · exact absurd same.symm leaves
        · omega
      · have stays : a.cls.getD r.cls ≠ c := by
          cases item : a.cls with
          | none => exact leaves
          | some d => exact fun same => joins (item.trans (congrArg some same))
        simpa [leaves, stays] using bound
  | @setClass c i room =>
    intro d
    have le := State.occupancy_le (s := s) (t := s.applyClass c i) (fun h q hq => by
      rw [State.record_applyClass] at hq
      obtain ⟨r, own, rfl⟩ := Option.map_eq_some_iff.1 hq
      refine ⟨r, own, ?_⟩
      split
      · exact (r.clip_station _).2.1
      · rfl) d
    have bound := law d
    rw [State.classSettings_applyClass]
    split
    · rename_i same
      subst same
      cases item : i.capacity with
      | none => simpa [ClassItems.apply, item] using le.trans bound
      | some n => exact le.trans (room (by simp [item]))
    · exact le.trans bound
  | reset => exact State.reset_occupancyLaw

/-- Every move keeps the occupancies within the capacities (R32). -/
theorem State.Move.occupancyLaw {s t : State} (move : s.Move t) (law : s.OccupancyLaw) :
    t.OccupancyLaw := by
  obtain ⟨u, work, same⟩ := move.table
  exact (work.recordsKept.elim law.of_kept (·.occupancyLaw law)).of_kept
    (.of_records same.records same.classes)

/-! ### Balances -/

theorem State.BalanceLaw.of_kept {s t : State} (kept : s.RecordsKept t)
    (range : ∀ c, (s.classSettings c).InRange) (law : s.BalanceLaw) : t.BalanceLaw := fun h q hq => by
  obtain ⟨r, own, k⟩ := kept.kept h q hq
  have same : t.classSettings q.cls = s.classSettings r.cls := by
    simp only [State.classSettings, kept.classes, k.cls]
  rw [same]
  exact k.account (range r.cls) (law h r own)

theorem State.BalanceLaw.congr {s t : State} (records : t.records = s.records)
    (classes : t.settings.classes = s.settings.classes) (law : s.BalanceLaw) : t.BalanceLaw :=
  fun h r hr => by
    simpa only [State.classSettings, classes] using law h r ((State.record_congr records h).symm.trans hr)

theorem State.reset_balanceLaw : State.reset.BalanceLaw := fun h r hr => by
  simp [State.record_reset] at hr

theorem Record.clip_accountIn {r : Record} {old : Nat} (account : r.AccountIn old) (cap : Nat) :
    (r.clip cap).AccountIn cap := by
  obtain ⟨low, mid, high⟩ := account
  rw [Record.clip]
  split
  · simp only [Record.AccountIn, Record.setBalance]
    omega
  · exact ⟨low, mid, by omega⟩

theorem Record.inClass_accountIn {r : Record} {g : Settings}
    (account : r.AccountIn (g.classes.get r.cls).balanceCap) (c : Option Cls) :
    (r.inClass g c).AccountIn (g.classes.get (r.inClass g c).cls).balanceCap := by
  rw [Record.inClass_cls]
  cases c with
  | none => exact account
  | some c =>
    simp only [Record.inClass, Option.getD_some]
    split
    · rename_i same
      exact same ▸ account
    · exact Record.clip_accountIn (r := { r with cls := c }) account _

theorem Record.amended_accountIn {r : Record} {g : Settings} (range : ∀ c, (g.classes.get c).InRange)
    (account : r.AccountIn (g.classes.get r.cls).balanceCap) (a : Amendment) :
    (r.amended g a).AccountIn (g.classes.get (r.amended g a).cls).balanceCap := by
  have moved := Record.inClass_accountIn account a.cls
  rw [Record.amended_cls, ← Record.inClass_cls r g]
  obtain ⟨low, mid, high⟩ := moved
  obtain ⟨-, -, -, -, -, initial, -, -⟩ := range (r.inClass g a.cls).cls
  simp only [Record.amended, Record.AccountIn, Record.amendFields, Record.amendBalance]
  split
  · simp only [Record.setBalance]
    omega
  · exact ⟨low, mid, high⟩

theorem State.Rewrite.balanceLaw {s u : State} (work : s.Rewrite u)
    (range : ∀ c, (s.classSettings c).InRange) (law : s.BalanceLaw) : u.BalanceLaw := by
  cases work with
  | @admission a h stranger room free =>
    intro k q hq
    rw [State.classSettings_congr (s.admitAt_frame a h).settings]
    rw [State.record_admitAt free] at hq
    split at hq
    · cases hq
      obtain ⟨-, -, -, -, -, initial, -, -⟩ := range a.cls
      simp only [Admission.newRecord]
      omega
    · exact law k q hq
  | @amend h a r own living room =>
    intro k q hq
    have one := OneRecord.applyAmendment own a
    rw [State.classSettings_congr (s.applyAmendment_frame h a).settings]
    by_cases hk : k = h
    · subst hk
      cases one.own.symm.trans hq
      exact Record.amended_accountIn range (law k r own) a
    · exact law k q ((one.others k hk).symm.trans hq)
  | @setClass c i room =>
    intro k q hq
    rw [State.record_applyClass] at hq
    obtain ⟨r, own, rfl⟩ := Option.map_eq_some_iff.1 hq
    have account : r.AccountIn (s.classSettings r.cls).balanceCap := law k r own
    split
    · rename_i lowered
      rw [(r.clip_station _).2.1, State.classSettings_applyClass, if_pos lowered.2.symm]
      exact Record.clip_accountIn account _
    · rename_i kept
      rw [State.classSettings_applyClass]
      split
      · rename_i same
        obtain ⟨low, mid, high⟩ := account
        rw [← same] at high
        refine ⟨low, mid, ?_⟩
        grind
      · exact account
  | reset => exact State.reset_balanceLaw

/-- Every move keeps the accounts in their bounds (R86). -/
theorem State.Move.balanceLaw {s t : State} (move : s.Move t) (range : ∀ c, (s.classSettings c).InRange)
    (law : s.BalanceLaw) : t.BalanceLaw := by
  obtain ⟨u, work, same⟩ := move.table
  exact (work.recordsKept.elim (law.of_kept · range) (·.balanceLaw range law)).congr
    same.records same.classes

end Sys2Proof.Machine
end

section
/-! PROOF. The laws of the tickets, their pool and their holders, and the laws of the service lists: kept by
every move. -/

namespace Sys2Proof.Machine

/-! ### The tickets that a work returns or issues -/

theorem State.holders_acceptCompletion (s : State) (c : Completion) (h : Nat) :
    (s.acceptCompletion c h).holders = s.holders.set c.ticket none := by
  rw [← s.holders_returnTicket]
  exact State.holders_congr (by simp [State.acceptCompletion])

theorem State.pool_acceptCompletion (s : State) (c : Completion) (h : Nat) :
    (s.acceptCompletion c h).pool = s.pool ++ [c.ticket] := by
  simp [State.acceptCompletion]

theorem State.holders_expire (s : State) (n : Nat) (i : Issue) :
    (s.expire n i).holders = s.holders.set n none := by
  rw [← s.holders_returnTicket]
  exact State.holders_congr (by simp [State.expire])

theorem State.pool_expire (s : State) (n : Nat) (i : Issue) : (s.expire n i).pool = s.pool ++ [n] := by
  simp [State.expire]

theorem State.holders_issueTo (s : State) (t h : Nat) (r : Record) (limit : Nat) :
    (s.issueTo t h r limit).holders = s.holders.set t (some h) :=
  s.holders_putTicket t _

theorem State.holders_resynced (s : State) : s.resynced.holders = List.replicate 24 none := by
  rw [← s.holders_returnAll]
  exact State.holders_congr (by simp [State.resynced])

theorem State.pool_resynced (s : State) : s.resynced.pool = s.pool ++ s.issuedTickets := by
  simp [State.resynced]

theorem State.holders_reset : State.reset.holders = List.replicate 24 none := by
  refine List.eq_replicate_iff.2 ⟨State.reset.holders_length, fun o ho => ?_⟩
  rw [State.holders, State.tickets_toList, List.map_map] at ho
  obtain ⟨n, -, rfl⟩ := List.mem_map.1 ho
  rw [Function.comp_apply, State.ticket_of_reset]
  rfl

theorem State.issued_eq_false (s : State) (n : Nat) :
    (s.ticket n).issued = false ↔ (s.holders[n]?).join = none := by
  rw [← not_iff_not, Bool.not_eq_false]
  exact s.issued_iff n

/-- The holders after one ticket has changed. -/
theorem join_getElem_set {l : List (Option Nat)} {n : Nat} (lt : n < l.length) (o : Option Nat) (k : Nat) :
    ((l.set n o)[k]?).join = if n = k then o else (l[k]?).join := by
  rw [List.getElem?_set]
  split
  · simp
  · rfl

/-! ### The free pool -/

theorem State.PoolLaw.congr {s t : State} (law : s.PoolLaw) (holders : t.holders = s.holders)
    (pool : t.pool = s.pool) : t.PoolLaw :=
  ⟨pool ▸ law.nodup, fun n => by rw [pool, law.exact, s.issued_eq_false, t.issued_eq_false, holders]⟩

/-- The head of the pool is issued (R109, R119). -/
theorem State.PoolLaw.issue {s t : State} {n h : Nat} {rest : List Nat} (law : s.PoolLaw)
    (head : s.pool = n :: rest) (pool : t.pool = rest) (holders : t.holders = s.holders.set n (some h)) :
    t.PoolLaw := by
  have nodup := head ▸ law.nodup
  have lt : n < 24 := ((law.exact n).1 (head ▸ List.mem_cons_self)).1
  refine ⟨pool ▸ nodup.of_cons, fun k => ?_⟩
  have was := law.exact k
  rw [head, s.issued_eq_false, List.mem_cons] at was
  rw [pool, t.issued_eq_false, holders, join_getElem_set (by simpa [State.holders_length] using lt)]
  by_cases hk : n = k
  · subst hk
    simpa using (List.nodup_cons.1 nodup).1
  · simpa [hk, Ne.symm hk] using was

/-- An ISSUED ticket is returned behind the pool (R119). -/
theorem State.PoolLaw.return {s t : State} {n : Nat} {i : Issue} (law : s.PoolLaw)
    (issued : (s.ticket n).issue = some i) (pool : t.pool = s.pool ++ [n])
    (holders : t.holders = s.holders.set n none) : t.PoolLaw := by
  have lt : n < 24 := State.lt_of_issue issued
  have out : n ∉ s.pool := fun h => by simpa [Ticket.issued, issued] using ((law.exact n).1 h).2
  refine ⟨pool ▸ List.nodup_append.2 ⟨law.nodup, List.nodup_singleton n, by grind⟩, fun k => ?_⟩
  have was := law.exact k
  rw [s.issued_eq_false] at was
  rw [pool, t.issued_eq_false, holders, join_getElem_set (by simpa [State.holders_length] using lt),
    List.mem_append, List.mem_singleton, was]
  grind

theorem State.mem_issuedTickets {s : State} {n : Nat} :
    n ∈ s.issuedTickets ↔ n < 24 ∧ (s.ticket n).issued = true := by
  simp [State.issuedTickets]

/-- Every ISSUED ticket is returned (R137). -/
theorem State.PoolLaw.resynced {s : State} (law : s.PoolLaw) : s.resynced.PoolLaw := by
  have nodup : s.issuedTickets.Nodup := List.nodup_range.filter _
  refine ⟨?_, fun k => ?_⟩
  · rw [State.pool_resynced]
    refine List.nodup_append.2 ⟨law.nodup, nodup, fun a ha b hb e => ?_⟩
    have free := ((law.exact a).1 ha).2
    rw [e, (State.mem_issuedTickets.1 hb).2] at free
    cases free
  · have free : (s.resynced.ticket k).issued = false := by
      rw [State.issued_eq_false, State.holders_resynced, List.getElem?_replicate]
      split <;> rfl
    rw [State.pool_resynced, List.mem_append, law.exact, State.mem_issuedTickets, free]
    cases (s.ticket k).issued <;> simp

theorem State.reset_poolLaw : State.reset.PoolLaw :=
  ⟨List.nodup_range, fun n => by
    rw [State.ticket_of_reset]
    exact List.mem_range.trans (and_iff_left rfl).symm⟩

theorem State.MediumWork.poolLaw {s u : State} {b : MessageBody} (work : s.MediumWork b u)
    (law : s.PoolLaw) : u.PoolLaw := by
  cases work with
  | nothing => exact law
  | visits offered =>
    exact State.walk_induction (P := State.PoolLaw) (fun u c hu => hu.congr rfl rfl)
      (fun u h r hu _ _ => hu.congr rfl rfl)
      (fun u t rest h r limit hu head _ _ =>
        hu.issue head (by simp [State.issueTo, head]) (u.holders_issueTo t h r limit)) _ _ _ law
  | @completion c i issued =>
    exact law.return issued (s.pool_acceptCompletion c _) (s.holders_acceptCompletion c _)
  | heard | stranger | demand => exact law.congr (State.holders_congr (by simp)) (by simp)
  | resync => exact law.resynced

theorem State.Rewrite.poolLaw {s u : State} (work : s.Rewrite u) (law : s.PoolLaw) : u.PoolLaw := by
  cases work with
  | admission => exact law.congr rfl rfl
  | @amend h a =>
    exact law.congr (State.holders_congr (s.applyAmendment_frame h a).tickets)
      (s.applyAmendment_frame h a).pool
  | @setClass c i =>
    exact law.congr (State.holders_congr (s.applyClass_frame c i).tickets)
      (s.applyClass_frame c i).pool
  | reset => exact State.reset_poolLaw

theorem State.TableWork.poolLaw {s u : State} (work : s.TableWork u) (law : s.PoolLaw) : u.PoolLaw := by
  cases work with
  | nothing => exact law
  | medium work => exact work.poolLaw law
  | expiry work =>
    cases work with
    | nothing => exact law
    | @expire n i issued => exact law.return issued (s.pool_expire n i) (s.holders_expire n i)
  | sweep work => cases work <;> exact law.congr (State.holders_congr (by simp)) (by simp)
  | retire | clearMarks | resetAccounts => exact law.congr (State.holders_congr (by simp)) (by simp)
  | rewrite work => exact work.poolLaw law

/-- Every move keeps every ticket in the pool or ISSUED, and none twice in the pool (R119). -/
theorem State.Move.poolLaw {s t : State} (move : s.Move t) (law : s.PoolLaw) : t.PoolLaw := by
  obtain ⟨u, work, same⟩ := move.table
  exact (work.poolLaw law).congr same.holders same.pool

/-! ### The holders -/

/-- The tickets ISSUED to a handle after one ticket has changed. -/
theorem State.issuedTo_set {s t : State} {n : Nat} {o : Option Nat} (lt : n < 24)
    (holders : t.holders = s.holders.set n o) (k : Nat) :
    t.issuedTo k = s.issuedTo k - (if (s.ticket n).holder = some k then 1 else 0)
      + (if o = some k then 1 else 0) := by
  have lt' : n < s.holders.length := by simpa [State.holders_length] using lt
  have slot : s.holders[n] = (s.ticket n).holder := by
    simpa [List.getElem?_eq_getElem lt'] using s.holders_get n
  rw [State.issuedTo_eq_count, State.issuedTo_eq_count, holders, List.count_set lt', slot]
  simp only [beq_iff_eq]

theorem State.issuedTo_pos {s : State} {n : Nat} {i : Issue} (issued : (s.ticket n).issue = some i) :
    0 < s.issuedTo i.holder := by
  have holder : (s.holders[n]?).join = some i.holder := by
    rw [s.holders_get, Ticket.holder, issued]
    rfl
  rw [State.issuedTo_eq_count, List.count_pos_iff]
  exact List.mem_of_getElem? (Option.join_eq_some_iff.1 holder)

theorem State.issuedTo_none {s : State} (holders : s.holders = List.replicate 24 none) (h : Nat) :
    s.issuedTo h = 0 := by
  rw [State.issuedTo_eq_count, holders, List.count_eq_zero]
  simp

/-- A change of the records that keeps the tickets held: what is freed held none, and what begins to drain
holds one. -/
theorem State.HolderLaw.of_held {s t : State} (law : s.HolderLaw) (holders : t.holders = s.holders)
    (kept : ∀ h q, t.record h = some q → ∃ r, s.record h = some r ∧ q.held = r.held ∧
      (q.living = false → r.living = false ∨ 0 < r.held))
    (freed : ∀ h r, t.record h = none → s.record h = some r → r.held = 0) : t.HolderLaw := by
  have count : ∀ h, t.issuedTo h = s.issuedTo h := fun h => by
    rw [State.issuedTo_eq_count, State.issuedTo_eq_count, holders]
  refine ⟨fun h q hq => ?_, fun h hn => ?_, fun h q hq => ?_, fun h q hq dead => ?_⟩
  · obtain ⟨r, own, held, -⟩ := kept h q hq
    rw [count, held, law.held h r own]
  · rw [count]
    cases own : s.record h with
    | none => exact law.free h own
    | some r => rw [← law.held h r own, freed h r hn own]
  · obtain ⟨r, own, held, -⟩ := kept h q hq
    exact held ▸ law.most h r own
  · obtain ⟨r, own, held, was⟩ := kept h q hq
    exact held ▸ (was dead).elim (law.draining h r own) id

/-- What a work that keeps the tickets held leaves of a record. -/
def Record.HeldKept (r : Record) : Option Record → Prop
  | none => r.held = 0
  | some q => q.held = r.held ∧ (q.living = false → r.living = false ∨ 0 < r.held)

theorem State.HolderLaw.of_one {s t : State} {h : Nat} {r : Record} {o : Option Record}
    (law : s.HolderLaw) (own : s.record h = some r) (one : OneRecord s t h o)
    (holders : t.holders = s.holders) (kept : r.HeldKept o) : t.HolderLaw := by
  refine law.of_held holders (fun k q hq => ?_) fun k q hq was => ?_
  · by_cases hk : k = h
    · subst hk
      cases one.own.symm.trans hq
      exact ⟨r, own, kept⟩
    · exact ⟨q, (one.others k hk).symm.trans hq, rfl, .inl⟩
  · by_cases hk : k = h
    · subst hk
      cases one.own.symm.trans hq
      cases own.symm.trans was
      exact kept
    · cases ((one.others k hk).symm.trans hq).symm.trans was

theorem State.HolderLaw.congr {s t : State} (law : s.HolderLaw) (records : t.records = s.records)
    (holders : t.holders = s.holders) : t.HolderLaw :=
  law.of_held holders (fun h q hq => ⟨q, (State.record_congr records h).symm.trans hq, rfl, .inl⟩)
    fun h r hn own => by
      cases ((State.record_congr records h).symm.trans hn).symm.trans own

/-- A record that keeps its state keeps living. -/
theorem Record.HeldKept.of_state {r q : Record} (held : q.held = r.held) (state : q.state = r.state) :
    r.HeldKept (some q) := ⟨held, fun dead => .inl (by simpa [Record.living, state] using dead)⟩

theorem Record.HeldKept.of_living {r q : Record} (held : q.held = r.held) (living : q.living = r.living) :
    r.HeldKept (some q) := ⟨held, fun dead => .inl (living ▸ dead)⟩

theorem Record.retired_heldKept (r : Record) (cause : DrainCause) : r.HeldKept (r.retired cause) := by
  rw [Record.retired]
  split
  · assumption
  · rename_i some_held
    exact ⟨rfl, fun _ => .inr (Nat.pos_of_ne_zero some_held)⟩

theorem Record.grownOld_heldKept (r : Record) (auto : Bool) : r.HeldKept (r.grownOld auto) := by
  rw [Record.grownOld]
  split
  · exact Record.retired_heldKept { r with linger := 0, aged := true } .aged
  · exact .of_state rfl rfl

/-- The grant of the pool's head to a record below its class ticket cap (R109, R120). -/
theorem State.HolderLaw.issue {s t : State} {n h : Nat} {r : Record} (law : s.HolderLaw)
    (free : (s.ticket n).issued = false) (lt : n < 24) (own : s.record h = some r) (room : r.held < 4)
    (one : OneRecord s t h (some r.granted)) (holders : t.holders = s.holders.set n (some h)) :
    t.HolderLaw := by
  have none : (s.ticket n).holder = none := by
    rwa [s.issued_eq_false, s.holders_get] at free
  have count : ∀ k, t.issuedTo k = s.issuedTo k + if h = k then 1 else 0 := fun k => by
    rw [State.issuedTo_set lt holders, none]
    simp
  have living : r.granted.living = r.living := rfl
  have at_ : ∀ k q, t.record k = some q → k = h ∧ q = r.granted ∨ k ≠ h ∧ s.record k = some q :=
    fun k q hq => by
      by_cases hk : k = h
      · exact .inl ⟨hk, Option.some.inj ((hk ▸ hq).symm.trans one.own)⟩
      · exact .inr ⟨hk, (one.others k hk).symm.trans hq⟩
  refine ⟨fun k q hq => ?_, fun k hn => ?_, fun k q hq => ?_, fun k q hq dead => ?_⟩
  · rcases at_ k q hq with ⟨rfl, rfl⟩ | ⟨hk, hq⟩
    · rw [count, ← law.held _ r own]
      simp [Record.granted]
    · rw [count, if_neg (Ne.symm hk)]
      exact law.held k q hq
  · have hk : k ≠ h := fun e => by
      rw [e, one.own] at hn
      cases hn
    rw [count, if_neg (Ne.symm hk)]
    exact law.free k ((one.others k hk).symm.trans hn)
  · rcases at_ k q hq with ⟨rfl, rfl⟩ | ⟨hk, hq⟩
    · simpa [Record.granted] using room
    · exact law.most k q hq
  · rcases at_ k q hq with ⟨rfl, rfl⟩ | ⟨hk, hq⟩
    · simp [Record.granted]
    · exact law.draining k q hq dead

/-- A ticket comes back to its holder, whose drain ends with its last (R120, R47). -/
theorem State.HolderLaw.return {s t : State} {n : Nat} {i : Issue} {r q : Record} (law : s.HolderLaw)
    (issued : (s.ticket n).issue = some i) (own : s.record i.holder = some r)
    (one : OneRecord s t i.holder q.drained) (held : q.held = r.held - 1)
    (holders : t.holders = s.holders.set n none) : t.HolderLaw := by
  have holder : (s.ticket n).holder = some i.holder := by
    rw [Ticket.holder, issued]
    rfl
  have count : ∀ k, t.issuedTo k = s.issuedTo k - if i.holder = k then 1 else 0 := fun k => by
    rw [State.issuedTo_set (State.lt_of_issue issued) holders, holder]
    simp
  have here : t.issuedTo i.holder = q.held := by
    rw [count, held, law.held _ r own, if_pos rfl]
  have most : q.held ≤ 4 := by
    have := law.most _ r own
    omega
  have drained : ∀ p, q.drained = some p → p = q ∧ (q.living = false → 0 < q.held) := fun p hp => by
    rw [Record.drained] at hp
    split at hp
    · cases hp
    · rename_i holds
      cases hp
      exact ⟨rfl, fun dead => Nat.pos_of_ne_zero fun z => holds ⟨dead, z⟩⟩
  have at_ : ∀ k p, t.record k = some p →
      k = i.holder ∧ p = q ∧ (q.living = false → 0 < q.held) ∨ k ≠ i.holder ∧ s.record k = some p :=
    fun k p hp => by
      by_cases hk : k = i.holder
      · exact .inl ⟨hk, drained p (one.own.symm.trans (hk ▸ hp))⟩
      · exact .inr ⟨hk, (one.others k hk).symm.trans hp⟩
  refine ⟨fun k p hp => ?_, fun k hn => ?_, fun k p hp => ?_, fun k p hp dead => ?_⟩
  · rcases at_ k p hp with ⟨rfl, rfl, -⟩ | ⟨hk, hp⟩
    · exact here.symm
    · rw [count, if_neg (Ne.symm hk)]
      exact law.held k p hp
  · by_cases hk : k = i.holder
    · subst hk
      rw [one.own, Record.drained] at hn
      split at hn
      · rename_i ended
        exact here.trans ended.2
      · cases hn
    · rw [count, if_neg (Ne.symm hk)]
      exact law.free k ((one.others k hk).symm.trans hn)
  · rcases at_ k p hp with ⟨rfl, rfl, -⟩ | ⟨hk, hp⟩
    · exact most
    · exact law.most k p hp
  · rcases at_ k p hp with ⟨rfl, rfl, holds⟩ | ⟨hk, hp⟩
    · exact holds dead
    · exact law.draining k p hp dead

/-- The holder of an ISSUED ticket is not FREE (R120). -/
theorem State.HolderLaw.record_holder {s : State} (law : s.HolderLaw) {n : Nat} {i : Issue}
    (issued : (s.ticket n).issue = some i) : ∃ r, s.record i.holder = some r := by
  have pos := State.issuedTo_pos issued
  cases own : s.record i.holder with
  | none => exact absurd (law.free _ own) (Nat.ne_of_gt pos)
  | some r => exact ⟨r, rfl⟩

theorem State.reset_holderLaw : State.reset.HolderLaw where
  held := fun h r hr => by simp [State.record_reset] at hr
  free := fun h _ => State.issuedTo_none State.holders_reset h
  most := fun h r hr => by simp [State.record_reset] at hr
  draining := fun h r hr => by simp [State.record_reset] at hr

/-- After a RESYNC no record holds a ticket and none is RETIRING (R137). -/
theorem State.resynced_holderLaw (s : State) : s.resynced.HolderLaw := by
  have none := State.issuedTo_none s.holders_resynced
  have each : ∀ h q, s.resynced.record h = some q → q.held = 0 ∧ q.living = true := fun h q hq => by
    obtain ⟨r, -, living, rfl⟩ := slotAfterResync_some ((s.record_resynced h).symm.trans hq)
    exact ⟨rfl, living⟩
  refine ⟨fun h q hq => ?_, fun h _ => none h, fun h q hq => ?_, fun h q hq dead => ?_⟩
  · rw [none, (each h q hq).1]
  · rw [(each h q hq).1]
    omega
  · rw [(each h q hq).2] at dead
    cases dead

theorem State.toppedUp_heldKept (s : State) (r : Record) : r.HeldKept (some (s.toppedUp r)) := by
  rw [State.toppedUp]
  split <;> exact .of_state rfl rfl

theorem State.MediumWork.holderLaw {s u : State} {b : MessageBody} (work : s.MediumWork b u)
    (pool : s.PoolLaw) (range : ∀ c, (s.classSettings c).InRange) (law : s.HolderLaw) : u.HolderLaw := by
  cases work with
  | nothing => exact law
  | visits offered =>
    refine (State.walk_induction
      (P := fun u => u.PoolLaw ∧ u.HolderLaw ∧ u.settings = s.settings)
      (fun u c ⟨pool, law, same⟩ => ⟨pool.congr rfl rfl, law.congr rfl rfl, same⟩)
      (fun u h r ⟨pool, law, same⟩ own _ => ⟨pool.congr rfl rfl,
        law.of_one own (.putRecord own _) rfl (u.toppedUp_heldKept r), same⟩)
      (fun u t rest h r limit ⟨pool, law, same⟩ head own room => ?_) _ _ _ ⟨pool, law, rfl⟩).2.1
    have free := (pool.exact t).1 (head ▸ List.mem_cons_self)
    have below : r.held < 4 := by
      obtain ⟨-, -, -, -, cap, -, -, -⟩ := range r.cls
      rw [State.classSettings_congr same] at room
      omega
    exact ⟨pool.issue head (by simp [State.issueTo, head]) (u.holders_issueTo t h r limit),
      law.issue free.2 free.1 own below (.issueTo own limit) (u.holders_issueTo t h r limit), same⟩
  | @completion c i issued =>
    obtain ⟨r, own⟩ := law.record_holder issued
    exact law.return issued own (.acceptCompletion own c) rfl (s.holders_acceptCompletion c _)
  | @heard h n known =>
    obtain ⟨r, own, -, -⟩ := State.record_indexLookup known
    exact law.of_one own (.heard own _) (State.holders_congr (by simp))
      (.of_living rfl (r.afterHeard_living _ h))
  | stranger => exact law.congr (by simp) (State.holders_congr (by simp))
  | @demand h n r own =>
    exact law.of_one own ((OneRecord.putRecord own _).of_records (State.judge_records _ h))
      (State.holders_congr (by simp)) (.of_state rfl rfl)
  | resync => exact s.resynced_holderLaw

theorem Record.inClass_held (r : Record) (g : Settings) (c : Option Cls) :
    (r.inClass g c).held = r.held := by
  cases c with
  | none => rfl
  | some c =>
    simp only [Record.inClass, Record.clip]
    split
    · rfl
    · split <;> rfl

theorem Record.amended_held (r : Record) (g : Settings) (a : Amendment) :
    (r.amended g a).held = r.held := by
  rw [← r.inClass_held g a.cls]
  simp only [Record.amended, Record.amendFields, Record.amendBalance]
  split <;> rfl

theorem State.Rewrite.holderLaw {s u : State} (work : s.Rewrite u) (law : s.HolderLaw) :
    u.HolderLaw := by
  cases work with
  | @admission a h stranger room free =>
    have none : s.issuedTo h = 0 := law.free h (State.record_lowestFree free).2
    have each : ∀ k q, (s.admitAt a h).record k = some q →
        s.record k = some q ∨ h = k ∧ q.held = 0 ∧ q.living = true := fun k q hq => by
      rw [State.record_admitAt free] at hq
      split at hq
      · rename_i same
        cases hq
        exact .inr ⟨same, rfl, rfl⟩
      · exact .inl hq
    refine ⟨fun k q hq => ?_, fun k hn => ?_, fun k q hq => ?_, fun k q hq dead => ?_⟩
    · rcases each k q hq with old | ⟨rfl, held, -⟩
      · exact law.held k q old
      · exact held.trans none.symm
    · rw [State.record_admitAt free] at hn
      split at hn
      · cases hn
      · exact law.free k hn
    · rcases each k q hq with old | ⟨-, held, -⟩
      · exact law.most k q old
      · omega
    · rcases each k q hq with old | ⟨-, -, living⟩
      · exact law.draining k q old dead
      · rw [living] at dead
        cases dead
  | @amend h a r own living room =>
    exact law.of_one own (.applyAmendment own a)
      (State.holders_congr (s.applyAmendment_frame h a).tickets)
      (.of_living (r.amended_held _ a) (r.amended_station s.settings a).2)
  | @setClass c i room =>
    refine law.of_held (State.holders_congr (s.applyClass_frame c i).tickets)
      (fun h q hq => ?_) fun h r hn own => ?_
    · rw [State.record_applyClass] at hq
      obtain ⟨r, own, rfl⟩ := Option.map_eq_some_iff.1 hq
      refine ⟨r, own, ?_⟩
      split
      · simp only [Record.clip]
        split <;> exact ⟨rfl, .inl⟩
      · exact ⟨rfl, .inl⟩
    · rw [State.record_applyClass, own] at hn
      cases hn
  | reset => exact State.reset_holderLaw

theorem State.TableWork.holderLaw {s u : State} (work : s.TableWork u) (pool : s.PoolLaw)
    (range : ∀ c, (s.classSettings c).InRange) (law : s.HolderLaw) : u.HolderLaw := by
  cases work with
  | nothing => exact law
  | medium work => exact work.holderLaw pool range law
  | expiry work =>
    cases work with
    | nothing => exact law
    | @expire n i issued =>
      obtain ⟨r, own⟩ := law.record_holder issued
      exact law.return issued own (.expire own) rfl (s.holders_expire n i)
  | sweep work =>
    cases work with
    | nothing => exact law
    | age own living =>
      exact law.of_one own (.age own) (State.holders_congr (by simp)) (Record.grownOld_heldKept _ _)
    | count own => exact law.of_one own (.putRecord own _) rfl (.of_state rfl rfl)
  | retire own =>
    exact law.of_one own (.retire own .host) (State.holders_congr (by simp)) (Record.retired_heldKept _ _)
  | clearMarks own => exact law.of_one own (.putRecord own _) rfl (.of_state rfl rfl)
  | resetAccounts =>
    have mapped := s.record_mapRecords fun r => r.resetAccount (s.classSettings r.cls)
    refine law.of_held rfl (fun h q hq => ?_) fun h r hn own => ?_
    · obtain ⟨r, own, rfl⟩ := Option.map_eq_some_iff.1 ((mapped h).symm.trans hq)
      exact ⟨r, own, rfl, .inl⟩
    · cases (Option.map_eq_none_iff.1 ((mapped h).symm.trans hn)).symm.trans own
  | rewrite work => exact work.holderLaw law

/-- Every move keeps the count of tickets held (R120, R12, R13). -/
theorem State.Move.holderLaw {s t : State} (move : s.Move t) (pool : s.PoolLaw)
    (range : ∀ c, (s.classSettings c).InRange) (law : s.HolderLaw) : t.HolderLaw := by
  obtain ⟨u, work, same⟩ := move.table
  exact (work.holderLaw pool range law).congr same.records same.holders

/-! ### The service lists -/

/-- The law of the service lists for every handle but one, whose record is at most in the list of its own
class: what holds between a change to a record and the judgement of its eligibility (R92). -/
structure State.ListLawBut (s : State) (h : Nat) : Prop where
  nodup : ∀ c, (s.lists.get c).Nodup
  others : ∀ k c, k ≠ h →
    (k ∈ s.lists.get c ↔ ∃ r, s.record k = some r ∧ r.cls = c ∧ r.eligible = true)
  own : ∀ c, h ∈ s.lists.get c → ∃ r, s.record h = some r ∧ r.cls = c

theorem State.ListLaw.but {s : State} (law : s.ListLaw) (h : Nat) : s.ListLawBut h :=
  ⟨law.nodup, fun k c _ => law.exact k c, fun c mem =>
    let ⟨r, own, cls, _⟩ := (law.exact h c).1 mem
    ⟨r, own, cls⟩⟩

theorem State.ListLaw.of_records {s t : State} (law : s.ListLaw) (lists : t.lists = s.lists)
    (same : ∀ h c, (∃ r, t.record h = some r ∧ r.cls = c ∧ r.eligible = true) ↔
      ∃ r, s.record h = some r ∧ r.cls = c ∧ r.eligible = true) : t.ListLaw :=
  ⟨fun c => lists ▸ law.nodup c, fun h c => by rw [lists, same, law.exact]⟩

theorem State.ListLaw.congr {s t : State} (law : s.ListLaw) (records : t.records = s.records)
    (lists : t.lists = s.lists) : t.ListLaw :=
  law.of_records lists fun h c => by rw [State.record_congr records h]

/-- A change to one record that leaves its class and its eligibility as they are. -/
theorem State.ListLaw.of_one {s t : State} {h : Nat} {r q : Record} (law : s.ListLaw)
    (own : s.record h = some r) (one : OneRecord s t h (some q)) (lists : t.lists = s.lists)
    (cls : q.cls = r.cls) (eligible : q.eligible = r.eligible) : t.ListLaw := by
  refine law.of_records lists fun k c => ?_
  by_cases hk : k = h
  · subst hk
    simp [one.own, own, cls, eligible]
  · rw [one.others k hk]

/-- A change to every record that leaves classes and eligibility as they are. -/
theorem State.ListLaw.of_map {s t : State} {f : Record → Record} (law : s.ListLaw)
    (mapped : ∀ h, t.record h = (s.record h).map f) (lists : t.lists = s.lists)
    (cls : ∀ r, (f r).cls = r.cls) (eligible : ∀ r, (f r).eligible = r.eligible) : t.ListLaw := by
  refine law.of_records lists fun h c => ?_
  rw [mapped]
  cases s.record h <;> simp [cls, eligible]

theorem mem_judgedList {l : List Nat} (nodup : l.Nodup) {h k : Nat} {eligible : Bool} :
    k ∈ judgedList l h eligible ↔ if k = h then eligible = true else k ∈ l := by
  rw [judgedList]
  split
  · rename_i holds
    subst holds
    split
    · rename_i held
      have mem : h ∈ l := by simpa using held
      split <;> simp_all
    · rename_i out
      simp only [List.mem_append, List.mem_singleton]
      grind
  · rename_i holds
    rw [nodup.mem_erase_iff]
    grind

theorem judgedList_nodup {l : List Nat} (nodup : l.Nodup) (h : Nat) (eligible : Bool) :
    (judgedList l h eligible).Nodup := by
  rw [judgedList]
  split
  · split
    · exact nodup
    · exact List.nodup_append.2 ⟨nodup, List.nodup_singleton h, by grind⟩
  · exact nodup.erase h

/-- The lists after a judgement of one record in the list of a class. -/
theorem Judged.mem_iff {s t : State} {c : Cls} {h : Nat} {eligible : Bool} (judged : Judged s t c h eligible)
    (nodup : ∀ d, (s.lists.get d).Nodup) (k : Nat) (d : Cls) :
    k ∈ t.lists.get d ↔ if d = c ∧ k = h then eligible = true else k ∈ s.lists.get d := by
  by_cases hd : d = c
  · subst hd
    rw [judged.own, mem_judgedList (nodup d)]
    simp
  · rw [judged.others d hd]
    simp [hd]

theorem Judged.nodup {s t : State} {c : Cls} {h : Nat} {eligible : Bool} (judged : Judged s t c h eligible)
    (nodup : ∀ d, (s.lists.get d).Nodup) (d : Cls) : (t.lists.get d).Nodup := by
  by_cases hd : d = c
  · rw [hd, judged.own]
    exact judgedList_nodup (nodup c) h eligible
  · rw [judged.others d hd]
    exact nodup d

/-- The judgement of one record restores the law (R92). -/
theorem State.ListLawBut.judge {s : State} {h : Nat} (law : s.ListLawBut h) : (s.judge h).ListLaw := by
  cases own : s.record h with
  | none =>
    rw [State.judge_none own]
    refine ⟨law.nodup, fun k c => ?_⟩
    by_cases hk : k = h
    · subst hk
      have out : k ∉ s.lists.get c := fun mem => by
        obtain ⟨r, hr, -⟩ := law.own c mem
        cases own.symm.trans hr
      simp [own, out]
    · exact law.others k c hk
  | some r =>
    have judged := State.judge_judged own
    refine ⟨judged.nodup law.nodup, fun k c => ?_⟩
    rw [judged.mem_iff law.nodup, State.record_congr (s.judge_records h)]
    by_cases hk : k = h
    · subst hk
      have at_own : k ∈ s.lists.get c → r.cls = c := fun mem => by
        obtain ⟨q, hq, cls⟩ := law.own c mem
        cases own.symm.trans hq
        exact cls
      by_cases hc : c = r.cls
      · simp [own, hc]
      · have out : k ∉ s.lists.get c := fun mem => hc (at_own mem).symm
        simp [own, hc, out, Ne.symm hc]
    · simp only [hk, and_false, if_false]
      exact law.others k c hk

theorem State.ListLawBut.of_one {s t : State} {h : Nat} {r q : Record} (law : s.ListLawBut h)
    (own : s.record h = some r) (one : OneRecord s t h (some q)) (lists : t.lists = s.lists)
    (cls : q.cls = r.cls) : t.ListLawBut h := by
  refine ⟨fun c => lists ▸ law.nodup c, fun k c hk => ?_, fun c mem => ?_⟩
  · rw [lists, one.others k hk]
    exact law.others k c hk
  · obtain ⟨r', own', same⟩ := law.own c (lists ▸ mem)
    cases own.symm.trans own'
    exact ⟨q, one.own, cls.trans same⟩

/-- A record out of its list may become any record. -/
theorem State.ListLawBut.unlist {s t : State} {h : Nat} {r : Record} {o : Option Record}
    (law : s.ListLawBut h) (own : s.record h = some r) (one : OneRecord s t h o)
    (lists : t.lists = (s.unlist r.cls h).lists) :
    t.ListLawBut h ∧ ∀ c, h ∉ t.lists.get c := by
  have judged := s.unlist_judged r.cls h
  have out : ∀ c, h ∉ t.lists.get c := fun c mem => by
    rw [lists, judged.mem_iff law.nodup] at mem
    split at mem
    · cases mem
    · rename_i apart
      obtain ⟨q, hq, cls⟩ := law.own c mem
      cases own.symm.trans hq
      exact apart ⟨cls.symm, rfl⟩
  refine ⟨⟨fun c => lists ▸ judged.nodup law.nodup c, fun k c hk => ?_, fun c mem => absurd mem (out c)⟩,
    out⟩
  rw [lists, judged.mem_iff law.nodup, one.others k hk, ← law.others k c hk]
  simp [hk]

/-- A record out of every list that is not eligible keeps the law. -/
theorem State.ListLawBut.of_out {s : State} {h : Nat} (law : s.ListLawBut h) (out : ∀ c, h ∉ s.lists.get c)
    (dead : ∀ r, s.record h = some r → r.eligible = false) : s.ListLaw := by
  refine ⟨law.nodup, fun k c => ?_⟩
  by_cases hk : k = h
  · subst hk
    refine iff_of_false (out c) fun ⟨r, own, _, eligible⟩ => ?_
    rw [dead r own] at eligible
    cases eligible
  · exact law.others k c hk

/-- A record that is not living is not eligible (R54). -/
theorem Record.eligible_of_dead {r : Record} (dead : r.living = false) : r.eligible = false := by
  rw [Record.living] at dead
  rw [Record.eligible]
  split at dead <;> simp_all

theorem State.ListLaw.retire {s : State} (law : s.ListLaw) {h : Nat} {r : Record}
    (own : s.record h = some r) (cause : DrainCause) : (s.retire h cause).ListLaw := by
  have one := OneRecord.retire own cause
  obtain ⟨but, out⟩ := (law.but h).unlist own one (by simp [State.retire, own])
  refine but.of_out out fun q hq => Record.eligible_of_dead ?_
  have left := one.own.symm.trans hq
  rw [Record.retired] at left
  split at left
  · cases left
  · cases left
    rfl

theorem State.ListLaw.endDrain {s : State} (law : s.ListLaw) (h : Nat) : (s.endDrain h).ListLaw := by
  cases own : s.record h with
  | none => rwa [State.endDrain_none own]
  | some r =>
    have one := OneRecord.endDrain own
    rw [Record.drained] at one
    split at one
    · rename_i ended
      refine law.of_records (by simp) fun k c => ?_
      by_cases hk : k = h
      · subst hk
        simp [one.own, own, Record.eligible_of_dead ended.1]
      · rw [one.others k hk]
    · exact law.of_one own one (by simp) rfl rfl

theorem mem_rotated {l : List Nat} {h : Nat} : h ∈ rotated l ↔ h ∈ l := by
  cases l <;> simp [rotated, or_comm]

theorem rotated_nodup {l : List Nat} (nodup : l.Nodup) : (rotated l).Nodup := by
  cases l with
  | nil => exact nodup
  | cons h rest => exact (List.perm_append_singleton h rest).nodup_iff.2 nodup

theorem State.ListLaw.rotate {s : State} (law : s.ListLaw) (c : Cls) : (s.rotate c).ListLaw := by
  have lists : ∀ d, (s.rotate c).lists.get d = if c = d then rotated (s.lists.get d) else s.lists.get d :=
    fun d => by
      rw [State.rotate_lists, ClassMap.get_set]
      split
      · rename_i same
        rw [same]
      · rfl
  refine ⟨fun d => ?_, fun h d => ?_⟩
  · rw [lists]
    split
    · exact rotated_nodup (law.nodup d)
    · exact law.nodup d
  · rw [lists, State.record_congr (s.rotate_records c)]
    split
    · exact mem_rotated.trans (law.exact h d)
    · exact law.exact h d

theorem State.reset_listLaw : State.reset.ListLaw := by
  have empty : ∀ c, State.reset.lists.get c = [] := fun c => by cases c <;> rfl
  exact ⟨fun c => by simp [empty c], fun h c => by simp [empty c, State.record_reset]⟩

theorem State.toppedUp_eligible (s : State) (r : Record) :
    (s.toppedUp r).cls = r.cls ∧ (s.toppedUp r).eligible = r.eligible := by
  rw [State.toppedUp]
  split <;> exact ⟨rfl, rfl⟩

theorem State.MediumWork.listLaw {s u : State} {b : MessageBody} (work : s.MediumWork b u)
    (law : s.ListLaw) : u.ListLaw := by
  cases work with
  | nothing => exact law
  | visits offered =>
    exact State.walk_induction (P := State.ListLaw) (fun u c hu => hu.rotate c)
      (fun u h r hu own _ => hu.of_one own (.putRecord own _) rfl (u.toppedUp_eligible r).1
        (u.toppedUp_eligible r).2)
      (fun u t rest h r limit hu _ own _ => hu.of_one own (.issueTo own limit) rfl rfl rfl) _ _ _ law
  | @completion c i issued =>
    cases own : s.record i.holder with
    | none =>
      rw [State.acceptCompletion_none own]
      exact law.congr rfl rfl
    | some r =>
      have returned : (s.returnTicket c.ticket).record i.holder = some r :=
        (State.record_congr (s.returnTicket_records c.ticket) _).trans own
      have charged := OneRecord.charge returned c.used
      have updated := charged.trans (.updateRecord charged.own (·.afterCompletion c))
      have but : (s.returnTicket c.ticket).ListLawBut i.holder :=
        (law.congr (t := s.returnTicket c.ticket) rfl rfl).but _
      exact (but.of_one returned updated (by simp) rfl).judge.endDrain _
  | @heard h n known =>
    obtain ⟨r, own, -, -⟩ := State.record_indexLookup known
    exact ((law.but n).of_one own (.updateRecord own _) (by simp) rfl).judge
  | stranger => exact law.congr (by simp) (by simp)
  | @demand h n r own => exact ((law.but h).of_one own (.putRecord own (some (r.setBacklog n))) rfl rfl).judge
  | resync =>
    refine law.of_records s.resynced_frame.lists fun h c => ?_
    rw [State.record_resynced]
    cases s.record h with
    | none => rfl
    | some r =>
      cases living : r.living with
      | true => simp [slotAfterResync, Record.isRetiring, living, Record.eligible]
      | false => simp [slotAfterResync, Record.isRetiring, living, Record.eligible_of_dead living]

theorem State.ExpiryWork.listLaw {s u : State} (work : s.ExpiryWork u) (law : s.ListLaw) : u.ListLaw := by
  cases work with
  | nothing => exact law
  | @expire n i issued =>
    cases own : s.record i.holder with
    | none =>
      rw [State.expire_none own]
      exact law.congr rfl rfl
    | some r =>
      have returned : (s.returnTicket n).record i.holder = some r :=
        (State.record_congr (s.returnTicket_records n) _).trans own
      have charged := OneRecord.charge returned i.limit
      have updated := charged.trans (.updateRecord charged.own fun r => { r with held := r.held - 1 })
      have law' : (s.returnTicket n).ListLaw := law.congr rfl rfl
      rw [State.expire]
      exact ((law'.of_one returned updated (by simp) rfl rfl).congr (State.notify_records _ _)
        (State.notify_lists _ _)).endDrain _

theorem State.SweepWork.listLaw {s u : State} (work : s.SweepWork u) (law : s.ListLaw) : u.ListLaw := by
  cases work with
  | nothing => exact law
  | @age h r own living =>
    have aged := OneRecord.putRecord own (some { r with linger := 0, aged := true })
    have law' := law.of_one own aged rfl rfl rfl
    simp only [State.age]
    split
    · exact (law'.retire aged.own .aged).congr rfl rfl
    · exact law'.congr rfl rfl
  | count own => exact law.of_one own (.putRecord own _) rfl rfl rfl

/-- A class item leaves the record at most in the list of the class it names (R40). -/
theorem State.ListLaw.changeClassBy {s : State} (law : s.ListLaw) {h : Nat} {r : Record}
    (own : s.record h = some r) (c : Option Cls) : (s.changeClassBy h c).ListLawBut h := by
  have one := OneRecord.changeClassBy own c
  cases c with
  | none => exact law.but h
  | some c =>
    by_cases same : c = r.cls
    · simpa [State.changeClassBy, State.changeClass, own, same] using law.but h
    · exact ((law.but h).unlist own one (by simp [State.changeClassBy, State.changeClass, own, same])).1

theorem Record.amendFields_cls (r : Record) (c : ClassSettings) (a : Amendment) :
    ((r.amendBalance c a.toInitial).amendFields a).cls = r.cls :=
  (r.amendBalance_station c a.toInitial).2.1

theorem Record.clip_eligible (r : Record) (cap : Nat) : (r.clip cap).eligible = r.eligible := by
  rw [Record.clip]
  split <;> rfl

theorem State.Rewrite.listLaw {s u : State} (work : s.Rewrite u) (law : s.ListLaw) : u.ListLaw := by
  cases work with
  | @admission a h stranger room free =>
    refine law.of_records rfl fun k c => ?_
    rw [State.record_admitAt free]
    split
    · rename_i same
      subst same
      simp [(State.record_lowestFree free).2, Admission.newRecord, Record.eligible]
    · rfl
  | @amend h a r own living room =>
    have moved := OneRecord.changeClassBy own a.cls
    rw [State.applyAmendment]
    refine State.ListLawBut.judge ?_
    exact (law.changeClassBy own a.cls).of_one moved.own (.updateRecord moved.own _)
      (State.updateRecord_lists _ _ _) (Record.amendFields_cls _ _ a)
  | @setClass c i room =>
    have lists : (s.applyClass c i).lists = s.lists := (s.applyClass_frame c i).lists
    refine law.of_map (s.record_applyClass c i) lists (fun r => ?_) fun r => ?_
    · split
      · exact (r.clip_station _).2.1
      · rfl
    · split
      · exact r.clip_eligible _
      · rfl
  | reset => exact State.reset_listLaw

theorem State.TableWork.listLaw {s u : State} (work : s.TableWork u) (law : s.ListLaw) : u.ListLaw := by
  cases work with
  | nothing => exact law
  | medium work => exact work.listLaw law
  | expiry work => exact work.listLaw law
  | sweep work => exact work.listLaw law
  | retire own => exact law.retire own .host
  | clearMarks own => exact law.of_one own (.putRecord own _) rfl rfl rfl
  | resetAccounts => exact law.of_map (s.record_mapRecords _) rfl (fun _ => rfl) fun _ => rfl
  | rewrite work => exact work.listLaw law

/-- Every move keeps the eligible records, and them only, in the lists of their classes (R91). -/
theorem State.Move.listLaw {s t : State} (move : s.Move t) (law : s.ListLaw) : t.ListLaw := by
  obtain ⟨u, work, same⟩ := move.table
  exact (work.listLaw law).congr same.records same.lists

/-! ### The background-skip counter -/

theorem State.SkipLaw.congr {s t : State} (law : s.SkipLaw) (lists : t.lists = s.lists)
    (skip : t.skip = s.skip) : t.SkipLaw :=
  ⟨skip ▸ law.most, fun empty => skip.trans (law.empty (lists ▸ empty))⟩

theorem judgedSkip_cases (s : State) (c : Cls) (h : Nat) (eligible : Bool) :
    judgedSkip s c h eligible = 0 ∨ judgedSkip s c h eligible = s.skip := by
  rw [judgedSkip]
  split
  · exact .inl rfl
  · exact .inr rfl

theorem State.SkipLaw.judged {s t : State} {c : Cls} {h : Nat} {eligible : Bool} (law : s.SkipLaw)
    (judged : Judged s t c h eligible) : t.SkipLaw := by
  rcases judgedSkip_cases s c h eligible with zero | kept
  · exact ⟨by simp [judged.skip, zero], fun _ => judged.skip.trans zero⟩
  · refine ⟨by simpa [judged.skip, kept] using law.most, fun empty => ?_⟩
    rw [ClassMap.background_eq_get] at empty
    by_cases hc : c = .background
    · subst hc
      rw [judged.own] at empty
      by_cases was : s.lists.background = []
      · exact (judged.skip.trans kept).trans (law.empty was)
      · exact judged.skip.trans (if_pos ⟨rfl, was, empty⟩)
    · rw [judged.others _ (Ne.symm hc)] at empty
      exact (judged.skip.trans kept).trans (law.empty empty)

theorem State.SkipLaw.judge {s : State} (law : s.SkipLaw) (h : Nat) : (s.judge h).SkipLaw := by
  cases own : s.record h with
  | none => rwa [State.judge_none own]
  | some r => exact law.judged (State.judge_judged own)

theorem State.SkipLaw.rotate {s : State} (law : s.SkipLaw) (c : Cls) : (s.rotate c).SkipLaw := by
  refine ⟨law.most, fun empty => law.empty ?_⟩
  rw [State.rotate_lists, ClassMap.background_set] at empty
  split at empty
  · rename_i same
    rw [same] at empty
    cases list : s.lists.background with
    | nil => rfl
    | cons h rest => simp [ClassMap.get, list, rotated] at empty
  · exact empty

theorem State.SkipLaw.issueTo {s : State} (law : s.SkipLaw) (t h : Nat) (r : Record) (limit : Nat) :
    (s.issueTo t h r limit).SkipLaw := by
  have skip : (s.issueTo t h r limit).skip = s.skipAfterGrant r.cls := rfl
  have most := law.most
  refine ⟨?_, fun empty => ?_⟩
  · rw [skip, State.skipAfterGrant]
    split
    · omega
    · split
      · exact most
      · simp only [Config.skipMax]
        omega
  · have was : s.lists.background = [] := empty
    simp [skip, State.skipAfterGrant, was, law.empty was]

theorem State.SkipLaw.retire {s : State} (law : s.SkipLaw) (h : Nat) (cause : DrainCause) :
    (s.retire h cause).SkipLaw := by
  cases own : s.record h with
  | none => simpa [State.retire, own] using law
  | some r =>
    exact (law.judged (s.unlist_judged r.cls h)).congr (by simp [State.retire, own])
      (by simp [State.retire, own])

theorem State.SkipLaw.changeClassBy {s : State} (law : s.SkipLaw) (h : Nat) (c : Option Cls) :
    (s.changeClassBy h c).SkipLaw := by
  cases c with
  | none => exact law
  | some c =>
    simp only [State.changeClassBy, State.changeClass]
    split
    · exact law
    · split
      · exact law
      · exact (law.judged (s.unlist_judged _ h)).congr rfl rfl

theorem State.reset_skipLaw : State.reset.SkipLaw := ⟨by decide, fun _ => rfl⟩

theorem State.MediumWork.skipLaw {s u : State} {b : MessageBody} (work : s.MediumWork b u)
    (law : s.SkipLaw) : u.SkipLaw := by
  cases work with
  | nothing => exact law
  | visits offered =>
    exact State.walk_induction (P := State.SkipLaw) (fun u c hu => hu.rotate c)
      (fun u h r hu _ _ => hu.congr rfl rfl)
      (fun u t rest h r limit hu _ _ _ => hu.issueTo t h r limit) _ _ _ law
  | completion =>
    exact ((law.congr (by simp) (by simp)).judge _).congr (State.endDrain_lists _ _)
      (State.endDrain_skip _ _)
  | heard => exact (law.congr (by simp) (by simp)).judge _
  | stranger => exact law.congr (by simp) (by simp)
  | demand => exact (law.congr (by simp) (by simp)).judge _
  | resync => exact law.congr s.resynced_frame.lists s.resynced_frame.skip

theorem State.SweepWork.skipLaw {s u : State} (work : s.SweepWork u) (law : s.SkipLaw) : u.SkipLaw := by
  cases work with
  | nothing => exact law
  | @age h r own living =>
    have aged : (s.putRecord h (some { r with linger := 0, aged := true })).SkipLaw := law.congr rfl rfl
    simp only [State.age]
    split
    · exact (aged.retire h .aged).congr rfl rfl
    · exact aged.congr rfl rfl
  | count own => exact law.congr rfl rfl

theorem State.Rewrite.skipLaw {s u : State} (work : s.Rewrite u) (law : s.SkipLaw) : u.SkipLaw := by
  cases work with
  | admission => exact law.congr rfl rfl
  | @amend h a =>
    exact ((law.changeClassBy h a.cls).congr (State.updateRecord_lists _ h _)
      (State.updateRecord_skip _ h _)).judge h
  | @setClass c i =>
    exact law.congr (s.applyClass_frame c i).lists (s.applyClass_frame c i).skip
  | reset => exact State.reset_skipLaw

theorem State.TableWork.skipLaw {s u : State} (work : s.TableWork u) (law : s.SkipLaw) : u.SkipLaw := by
  cases work with
  | nothing => exact law
  | medium work => exact work.skipLaw law
  | expiry work => cases work <;> exact law.congr (by simp) (by simp)
  | sweep work => exact work.skipLaw law
  | retire => exact law.retire _ _
  | clearMarks => exact law.congr rfl rfl
  | resetAccounts => exact ⟨Nat.zero_le _, fun _ => rfl⟩
  | rewrite work => exact work.skipLaw law

/-- Every move keeps the background-skip counter in its range, and 0 while the BACKGROUND list is empty
(R100, R102). -/
theorem State.Move.skipLaw {s t : State} (move : s.Move t) (law : s.SkipLaw) : t.SkipLaw := by
  obtain ⟨u, work, same⟩ := move.table
  exact (work.skipLaw law).congr same.lists same.skip

end Sys2Proof.Machine
end

section
/-! PROOF. The laws of the settings, of the request that the port holds, of the queues, the arbiter, the
Notice Queue, the Load Governor and the timebase: kept by every move; and with them every law of the part. -/

namespace Sys2Proof.Machine

/-! ### What a request that has passed its field checks may carry -/

/-- What the laws ask of a request that the port holds: a SET_CLASS leaves the class settings in range
(R34), a SET_TIER WRITE carries values in range (R77), a SET_GOVERNOR leaves the thresholds in order (R152),
and a SET_NOTICE and a HOLD carry values in range (R175, R156). -/
def Request.Fits (g : Settings) : Request → Prop
  | .setClass c i => (i.apply (g.classes.get c)).InRange
  | .setTierWrite _ e => e.inRange = true
  | .setGovernor i => (i.apply g.governor).exit < (i.apply g.governor).enter
  | .setNotice i => ∀ n, i.coalesceCount = some n → 1 ≤ n ∧ n ≤ 32
  | .hold ms => ms ≤ 4000
  | _ => True

/-- The items of a body are in their ranges (R186). -/
theorem itemsOf_inRange {width : Nat → Option Nat} {slot : Nat → Nat} {inRange : Nat → Nat → Bool}
    {body : List Byte} {items : List (Nat × Nat)} (h : itemsOf width slot inRange body = some items)
    {id v : Nat} (value : itemValue items id = some v) : inRange id v = true := by
  rw [itemsOf] at h
  split at h
  · cases h
  · split at h
    · rename_i checks
      cases h
      simp only [Bool.and_eq_true, List.all_eq_true] at checks
      have mem : (id, v) ∈ items := by
        obtain ⟨before, after, rfl, -⟩ := List.lookup_eq_some_iff.1 value
        simp
      exact checks.2 (id, v) mem
    · cases h

variable {g : Settings} {body : List Byte} {r : Request}

/-- A code and body that carry no bounded field make a request that fits. -/
theorem parseFree_fits
    (h : parseEmpty .identify body = some r ∨ parseAdmission body = some r ∨
      parseAmendment body = some r ∨ parseRetire body = some r ∨ parseLookup body = some r ∨
      parseReadRecord body = some r ∨ parseList body = some r ∨ parseEmpty .readTickets body = some r ∨
      parseSetScheduler body = some r ∨ parseSetPresence body = some r ∨
      parseReadSettings body = some r ∨ parseReadGovernor body = some r ∨
      parseFetchNotices body = some r ∨ parseReset body = some r) : r.Fits g := by
  rcases h with h | h | h | h | h | h | h | h | h | h | h | h | h | h
  · grind [parseEmpty, Request.Fits]
  · simp only [parseAdmission] at h; grind [Request.Fits]
  · grind [parseAmendment, Request.Fits]
  · grind [parseRetire, Request.Fits]
  · grind [parseLookup, Request.Fits]
  · grind [parseReadRecord, Request.Fits]
  · grind [parseList, Request.Fits]
  · grind [parseEmpty, Request.Fits]
  · obtain ⟨items, -, rfl⟩ := Option.map_eq_some_iff.1 h; trivial
  · obtain ⟨items, -, rfl⟩ := Option.map_eq_some_iff.1 h; trivial
  · grind [parseReadSettings, Request.Fits]
  · grind [parseReadGovernor, Request.Fits]
  · grind [parseFetchNotices, Request.Fits]
  · grind [parseReset, Request.Fits]

theorem between_iff {lo v hi : Nat} : between lo v hi = true ↔ lo ≤ v ∧ v ≤ hi := by
  simp

/-- An item that is carried is in its range, and one that is not leaves a value in its range. -/
theorem getD_inRange {P : Nat → Prop} {o : Option Nat} {d : Nat} (carried : ∀ v, o = some v → P v)
    (default : P d) : P (o.getD d) := by
  cases o with
  | none => exact default
  | some v => exact carried v rfl

theorem parseSetClass_fits (range : ∀ c, (g.classes.get c).InRange)
    (h : parseSetClass g body = some r) : r.Fits g := by
  rw [parseSetClass.eq_def] at h
  split at h
  · cases h
  rename_i code rest
  split at h
  · rename_i cls items _ carried
    dsimp only at h
    split at h
    · rename_i initial
      cases h
      have item {id v : Nat} (value : itemValue items id = some v) : classInRange id v = true :=
        itemsOf_inRange carried value
      obtain ⟨capacity, low, high, capLow, capHigh, -, balLow, balHigh⟩ := range cls
      refine ⟨?_, ?_, ?_, ?_, ?_, initial, ?_, ?_⟩
      · exact getD_inRange (P := (· ≤ 640)) (fun v hv => by simpa [classInRange] using item hv) capacity
      · exact getD_inRange (P := (1 ≤ ·)) (fun v hv => (between_iff.1 (item hv)).1) low
      · exact getD_inRange (P := (· ≤ 65535)) (fun v hv => (between_iff.1 (item hv)).2) high
      · exact getD_inRange (P := (1 ≤ ·)) (fun v hv => (between_iff.1 (item hv)).1) capLow
      · exact getD_inRange (P := (· ≤ 4)) (fun v hv => (between_iff.1 (item hv)).2) capHigh
      · exact getD_inRange (P := (1000 ≤ ·)) (fun v hv => (between_iff.1 (item hv)).1) balLow
      · exact getD_inRange (P := (· ≤ 32767)) (fun v hv => (between_iff.1 (item hv)).2) balHigh
    · cases h
  · cases h

theorem parseSetTier_fits (h : parseSetTier body = some r) : r.Fits g := by
  rw [parseSetTier] at h
  grind [Request.Fits]

theorem parseSetGovernor_fits (h : parseSetGovernor g body = some r) : r.Fits g := by
  simp only [parseSetGovernor] at h
  split at h
  · cases h
  · split at h
    · rename_i order
      cases h
      exact order
    · cases h

theorem parseSetNotice_fits (h : parseSetNotice body = some r) : r.Fits g := by
  obtain ⟨items, carried, rfl⟩ := Option.map_eq_some_iff.1 h
  exact fun n value => between_iff.1 (itemsOf_inRange (id := 1) carried value)

theorem parseHold_fits (h : parseHold body = some r) : r.Fits g := by
  grind [parseHold, Request.Fits]

/-- A request that has passed its field checks carries what the laws ask of it. -/
theorem parseRequest_fits {code : Nat} (range : ∀ c, (g.classes.get c).InRange)
    (h : parseRequest g code body = some (some r)) : r.Fits g := by
  rw [parseRequest.eq_def] at h
  split at h <;> simp only [Option.some.injEq, reduceCtorEq] at h
  case h_9 => exact parseSetClass_fits range h
  case h_10 => exact parseSetTier_fits h
  case h_13 => exact parseSetGovernor_fits h
  case h_14 => exact parseSetNotice_fits h
  case h_17 => exact parseHold_fits h
  all_goals exact parseFree_fits (body := body) (by simp only [h, true_or, or_true])

end Sys2Proof.Machine
end

section
/-! PROOF. What each work leaves unchanged; and the laws of the settings, with what they ask of the request
that the port holds, kept by every move. -/

namespace Sys2Proof.Machine

/-! ### What the works leave as it is -/

theorem State.MediumWork.frame {s u : State} {b : MessageBody} (work : s.MediumWork b u) :
    UnchangedExcept
      [.records, .lists, .skip, .tickets, .pool, .strangers, .notices, .gov, .medium] s u := by
  cases work with
  | nothing => exact .refl _ s
  | visits offered =>
    exact fun p hp => State.walk_frame _ _ _ _ s p fun mem => hp (by cases p <;> simp at mem ⊢)
  | completion | heard | stranger | demand =>
    exact .of_parts fun p => by cases p <;> simp [Part.Same]
  | resync => exact fun p hp => s.resynced_frame p fun mem => hp (by cases p <;> simp at mem ⊢)

theorem State.ExpiryWork.frame {s u : State} (work : s.ExpiryWork u) :
    UnchangedExcept [.records, .tickets, .pool, .gov, .notices] s u := by
  cases work <;> exact .of_parts fun p => by cases p <;> simp [Part.Same]

theorem State.SweepWork.frame {s u : State} (work : s.SweepWork u) :
    UnchangedExcept [.records, .lists, .skip, .notices] s u := by
  cases work <;> exact .of_parts fun p => by cases p <;> simp [Part.Same]

theorem State.HostWork.frame {s u : State} {r : Request} (work : s.HostWork r u) :
    UnchangedExcept
      [.records, .lists, .skip, .strangers, .notices, .gov, .sweeper, .settings] s u := by
  cases work with
  | @admission a h => exact fun p hp => s.admitAt_frame a h p fun mem => hp (by cases p <;> simp at mem ⊢)
  | @amend h a => exact fun p hp => s.applyAmendment_frame h a p fun mem => hp (by cases p <;> simp at mem ⊢)
  | @setClass c i => exact fun p hp => s.applyClass_frame c i p fun mem => hp (by cases p <;> simp at mem ⊢)
  | nothing | retire | clearMarks | setTierWrite | setTierInvalidate | setScheduler | setPresence
  | setGovernor | setNotice | readGovernor | hold | fetchNotices | resetAccounts =>
    exact .of_parts fun p => by cases p <;> simp [Part.Same]

/-! ### The settings -/

/-- What the laws ask of the settings: the class settings in range (R33), the Tier Table well formed (R74),
the coalesce count in range (R175) and the thresholds in order (R152). -/
structure Settings.Sound (g : Settings) : Prop where
  classes : ∀ c, (g.classes.get c).InRange
  tiers : g.TierLaw
  notice : 1 ≤ g.notice.coalesceCount ∧ g.notice.coalesceCount ≤ 32
  thresholds : g.governor.exit < g.governor.enter

theorem Settings.tier_putTier (s : State) (k j : Nat) (e : Option TierEntry) :
    (s.putTier k e).settings.tier j = if k = j ∧ k < 8 then e else s.settings.tier j := by
  simp only [Settings.tier, State.putTier_settings]; grind

theorem Settings.tier_of_ge {g : Settings} {k : Nat} (h : 8 ≤ k) : g.tier k = none := by
  simp only [Settings.tier]; grind

/-- A WRITE that keeps the order of the table (R78). -/
theorem Settings.writeBreaksOrder_eq_false {g : Settings} {k : Nat} {e : TierEntry}
    (order : g.writeBreaksOrder k e = false) :
    (0 < k → ∃ below, g.tier (k - 1) = some below ∧ below.rateLimit < e.rateLimit) ∧
    (k < 7 → ∀ above, g.tier (k + 1) = some above → e.rateLimit < above.rateLimit) := by
  simp only [Settings.writeBreaksOrder, Bool.or_eq_false_iff, Bool.and_eq_false_iff,
    decide_eq_false_iff_not] at order
  refine ⟨fun pos => ?_, fun lt above some_above => ?_⟩
  · rcases order.1 with z | low
    · exact absurd pos z
    · split at low
      · cases low
      · rename_i below some_below
        exact ⟨below, some_below, by simpa using low⟩
  · rcases order.2 with z | high
    · exact absurd lt z
    · rw [some_above] at high
      simpa using high

theorem Settings.TierLaw.write {s : State} {k : Nat} {e : TierEntry} (law : s.settings.TierLaw)
    (order : s.settings.writeBreaksOrder k e = false) (range : e.inRange = true) :
    (s.putTier k (some e)).settings.TierLaw := by
  obtain ⟨low, high⟩ := Settings.writeBreaksOrder_eq_false order
  refine ⟨?_, fun j => ?_, fun j d f hd hf => ?_, fun j f hf => ?_⟩
  · rw [Settings.tier_putTier]
    split
    · rfl
    · exact law.first
  · have next := law.contiguous j
    simp only [Settings.tier_putTier]
    split
    · rename_i at_
      obtain ⟨below, some_below, -⟩ := low (by omega)
      have : k - 1 = j := by omega
      rw [this] at some_below
      split
      · exact fun _ => rfl
      · exact fun _ => by rw [some_below]; rfl
    · split
      · exact fun _ => rfl
      · exact next
  · simp only [Settings.tier_putTier] at hd hf
    split at hd
    · rename_i here
      obtain ⟨rfl, lt⟩ := here
      cases hd
      rw [if_neg (by omega)] at hf
      refine high (Nat.lt_of_not_le fun ge => ?_) f hf
      rw [Settings.tier_of_ge (by omega)] at hf
      cases hf
    · split at hf
      · rename_i here
        cases hf
        obtain ⟨below, some_below, rises⟩ := low (by omega)
        rw [here.1, Nat.add_sub_cancel] at some_below
        cases hd.symm.trans some_below
        exact rises
      · exact law.rising j d f hd hf
  · rw [Settings.tier_putTier] at hf
    split at hf
    · cases hf
      exact range
    · exact law.inRange j f hf

theorem Settings.TierLaw.invalidate {s : State} {k : Nat} (law : s.settings.TierLaw)
    (order : s.settings.invalidateBreaksOrder k = false) : (s.putTier k none).settings.TierLaw := by
  simp only [Settings.invalidateBreaksOrder, Bool.or_eq_false_iff, beq_eq_false_iff_ne] at order
  obtain ⟨⟨-, last⟩, pos⟩ := order
  refine ⟨?_, fun j => ?_, fun j d f hd hf => ?_, fun j f hf => ?_⟩
  · rw [Settings.tier_putTier, if_neg fun h => pos h.1]
    exact law.first
  · have next := law.contiguous j
    simp only [Settings.tier_putTier]
    split
    · simp
    · split
      · rename_i here
        rw [here.1] at last
        intro some_next
        rw [last] at some_next
        cases some_next
      · exact next
  · rw [Settings.tier_putTier] at hd hf
    split at hd
    · cases hd
    · split at hf
      · cases hf
      · exact law.rising j d f hd hf
  · rw [Settings.tier_putTier] at hf
    split at hf
    · cases hf
    · exact law.inRange j f hf

theorem Settings.tier_reset (k : Nat) :
    Settings.reset.tier k = if k = 0 then some ⟨30000, 500, 4000, 2000, 32⟩ else none := by
  rcases Nat.lt_or_ge k 8 with h | h
  · interval_cases k <;> rfl
  · rw [Settings.tier_of_ge h, if_neg (by omega)]

theorem Settings.reset_sound : Settings.reset.Sound where
  classes := fun c => by cases c <;> simp only [ClassSettings.InRange] <;> decide
  tiers := by
    refine ⟨by simp [Settings.tier_reset], by simp [Settings.tier_reset], by simp [Settings.tier_reset], ?_⟩
    intro k e h
    rw [Settings.tier_reset] at h
    split at h
    · cases h
      decide
    · cases h
  notice := by decide
  thresholds := by decide

/-- An accepted request keeps the settings sound. -/
theorem State.HostWork.settingsSound {s u : State} {r : Request} (work : s.HostWork r u)
    (fits : r.Fits s.settings) (sound : s.settings.Sound) : u.settings.Sound := by
  cases work with
  | @setClass c i room =>
    have same : (s.applyClass c i).settings =
        { s.settings with classes := s.settings.classes.set c (i.apply (s.classSettings c)) } := by
      simp only [State.applyClass]
      split <;> rfl
    rw [same]
    refine ⟨fun d => ?_, ⟨sound.tiers.first, sound.tiers.contiguous, sound.tiers.rising,
      sound.tiers.inRange⟩, sound.notice, sound.thresholds⟩
    rw [ClassMap.get_set]
    split
    · exact fits
    · exact sound.classes d
  | setTierWrite order =>
    exact ⟨sound.classes, sound.tiers.write order fits, sound.notice, sound.thresholds⟩
  | setTierInvalidate order =>
    exact ⟨sound.classes, sound.tiers.invalidate order, sound.notice, sound.thresholds⟩
  | setScheduler | setPresence =>
    exact ⟨sound.classes, ⟨sound.tiers.first, sound.tiers.contiguous, sound.tiers.rising,
      sound.tiers.inRange⟩, sound.notice, sound.thresholds⟩
  | setGovernor i =>
    rw [State.setGovernorState_settings]
    exact ⟨sound.classes, ⟨sound.tiers.first, sound.tiers.contiguous, sound.tiers.rising,
      sound.tiers.inRange⟩, sound.notice, fits⟩
  | setNotice i =>
    refine ⟨sound.classes, ⟨sound.tiers.first, sound.tiers.contiguous, sound.tiers.rising,
      sound.tiers.inRange⟩, ?_, sound.thresholds⟩
    exact getD_inRange (P := fun n => 1 ≤ n ∧ n ≤ 32) fits sound.notice
  | @amend h a => rwa [(s.applyAmendment_frame h a).settings]
  | admission => exact sound
  | nothing | retire | clearMarks | readGovernor | hold | fetchNotices | resetAccounts => simpa using sound

/-- The request that the port holds carries what the laws ask of it. -/
def State.PortFits (s : State) : Prop := ∀ r, s.req.port = .working r → r.Fits s.settings

theorem State.startRequest_settings (s : State) (r : Request) :
    (s.startRequest r).settings = s.settings := by
  rw [State.startRequest]
  split <;> simp

theorem State.startRequest_port (s : State) (r : Request) :
    (s.startRequest r).req.port = .working r := by
  rw [State.startRequest]
  split <;> simp

theorem State.workMessage_settings (s : State) (m : RawMessage) :
    (s.workMessage m).settings = s.settings := by
  rw [State.workMessage]
  split
  · rfl
  · split <;> simp

theorem State.workMessage_req (s : State) (m : RawMessage) : (s.workMessage m).req = s.req := by
  rw [State.workMessage]
  split
  · rfl
  · split <;> simp

theorem State.ticketDue_settings (s : State) : s.ticketDue.settings = s.settings := by
  rw [State.ticketDue]
  split <;> simp

theorem State.ticketDue_req (s : State) : s.ticketDue.req = s.req := by
  rw [State.ticketDue]
  split <;> simp

theorem State.periodExpired_settings (s : State) : s.periodExpired.settings = s.settings := by
  simp only [State.periodExpired]
  split <;> simp

theorem State.periodExpired_req (s : State) : s.periodExpired.req = s.req := by
  simp only [State.periodExpired]
  split <;> simp

/-- Every move keeps the settings sound. -/
theorem State.Move.settingsSound {s t : State} (move : s.Move t) (fits : s.PortFits)
    (sound : s.settings.Sound) : t.settings.Sound := by
  cases move with
  | host a port work => simpa using work.settingsSound (fits _ port) sound
  | direct a port _ work => simpa using work.settingsSound (fits _ port) sound
  | medium a holder held work => simpa [work.frame.settings] using sound
  | expiry work => simpa [work.frame.settings] using sound
  | sweep pass work => simpa [work.frame.settings] using sound
  | take => simpa [State.workMessage_settings] using sound
  | ticketDue => rwa [State.ticketDue_settings]
  | periodExpired => rwa [State.periodExpired_settings]
  | submitted => rwa [State.startRequest_settings]
  | reset port pending blocks => exact blocks.settings.symm ▸ Settings.reset_sound
  | windowEnded => simpa [State.windowEnded] using sound
  | time | word | read | coalesceExpired | link | refused | pins => exact sound

theorem State.PortFits.congr {s t : State} (fits : s.PortFits) (req : t.req = s.req)
    (settings : t.settings = s.settings) : t.PortFits := fun r port =>
  settings ▸ fits r (req ▸ port)

/-- A port that works on no request holds none. -/
theorem State.PortFits.of_quiet {s : State} (quiet : ∀ r, s.req.port ≠ .working r) : s.PortFits :=
  fun r port => absurd port (quiet r)

/-- Every move keeps what the laws ask of the request that the port holds. -/
theorem State.Move.portFits {s t : State} (move : s.Move t) (sound : s.settings.Sound)
    (fits : s.PortFits) : t.PortFits := by
  cases move with
  | host a port work => exact .of_quiet fun r => by simp [State.endHost]
  | direct a port _ work => exact .of_quiet fun r => by simp
  | medium a holder held work =>
    exact fits.congr (by simp [work.frame.req]) (by simp [work.frame.settings])
  | expiry work =>
    exact fits.congr (by simp [work.frame.req]) (by simp [work.frame.settings])
  | sweep pass work =>
    exact fits.congr (by simp [work.frame.req]) (by simp [work.frame.settings])
  | take => exact fits.congr (State.workMessage_req _ _) (State.workMessage_settings _ _)
  | ticketDue => exact fits.congr s.ticketDue_req s.ticketDue_settings
  | periodExpired => exact fits.congr s.periodExpired_req s.periodExpired_settings
  | link port =>
    rcases port with same | ⟨idle, -⟩
    · exact fun r working => fits r (same ▸ working)
    · exact .of_quiet fun r => by simp [idle]
  | refused => exact .of_quiet fun r => by simp
  | @submitted code body r idle parsed =>
    intro q port
    rw [State.startRequest_port] at port
    cases port
    rw [State.startRequest_settings]
    exact parseRequest_fits sound.classes parsed
  | reset port =>
    refine .of_quiet fun r => ?_
    rcases port with idle | ⟨a, ready⟩
    · simp [idle]
    · simp [ready]
  | windowEnded => exact fits.congr (by simp [State.windowEnded]) (by simp [State.windowEnded])
  | time | word | read | coalesceExpired | pins => exact fits

end Sys2Proof.Machine
end

section
/-! PROOF. The Notice Queue and the Load Governor: what the laws ask of each, kept by every move. -/

namespace Sys2Proof.Machine

/-! ### The Notice Queue -/

/-- What the laws ask of the Notice Queue under these settings (R171, R173 to R175). -/
structure NoticeQueue.Sound (q : NoticeQueue) (c : NoticeSettings) : Prop where
  reached : c.coalesceCount ≤ q.queue.length → q.attn = true
  timer : q.timer.isSome = true ↔ q.attn = false ∧ q.queue ≠ []
  short : q.queue.length ≤ 32

theorem NoticeQueue.Sound.append {q : NoticeQueue} {c : NoticeSettings} (sound : q.Sound c) (n : Notice) :
    (q.append c n).Sound c := by
  have short := q.append_length c n sound.short
  obtain ⟨reached, timer, -⟩ := sound
  refine ⟨?_, ?_, short⟩
  all_goals
    simp only [NoticeQueue.append]
    split
    · assumption
    split
    · grind
    split
    · simp
    split
    · simp; grind
    · simp; grind

theorem NoticeQueue.Sound.expired {q : NoticeQueue} {c : NoticeSettings} (sound : q.Sound c) :
    NoticeQueue.Sound { q with timer := none, attn := q.attn || !q.queue.isEmpty } c := by
  refine ⟨fun h => ?_, ?_, sound.short⟩
  · simp [sound.reached h]
  · simp

theorem NoticeQueue.Sound.passed {q : NoticeQueue} {c : NoticeSettings} (sound : q.Sound c) (dt : Nat) :
    NoticeQueue.Sound { q with timer := q.timer.map (· - dt) } c :=
  ⟨sound.reached, by simpa using sound.timer, sound.short⟩

theorem NoticeQueue.Sound.fetched {q : NoticeQueue} {c : NoticeSettings} (sound : q.Sound c)
    (count : 1 ≤ c.coalesceCount) (n : Nat) : (q.fetched c n).Sound c := by
  refine ⟨fun h => ?_, ?_, ?_⟩
  · simp only [NoticeQueue.fetched] at h ⊢
    cases left : q.queue.drop n with
    | nil =>
      simp only [left, List.length_nil] at h
      omega
    | cons x rest => simpa [left] using h
  · simp only [NoticeQueue.fetched]
    cases q.queue.drop n with
    | nil => simp
    | cons x rest => simp
  · simp only [NoticeQueue.fetched, List.length_drop]
    have := sound.short
    omega

theorem NoticeQueue.Sound.afterCount {q : NoticeQueue} {c : NoticeSettings} (sound : q.Sound c)
    (i : NoticeItems) (range : ∀ n, i.coalesceCount = some n → 1 ≤ n ∧ n ≤ 32) :
    (q.afterCount i.coalesceCount).Sound (i.apply c) := by
  obtain ⟨reached, timer, short⟩ := sound
  cases item : i.coalesceCount with
  | none => exact ⟨by simpa [NoticeItems.apply, item, NoticeQueue.afterCount] using reached, timer, short⟩
  | some n =>
    have count : (i.apply c).coalesceCount = n := by simp [NoticeItems.apply, item]
    have pos := range n item
    simp only [NoticeQueue.afterCount]
    split
    · rename_i now
      refine ⟨fun _ => rfl, ?_, short⟩
      simp
    · rename_i later
      refine ⟨fun h => ?_, timer, short⟩
      rw [count] at h
      simp at later
      by_contra off
      simp at off
      exact absurd (later off) (by omega)

theorem NoticeQueue.reset_sound : NoticeQueue.reset.Sound Settings.reset.notice :=
  ⟨by decide, by decide, by decide⟩

/-- The Notice Queue is sound under the part's notice settings. -/
def State.NoticesSound (s : State) : Prop := s.notices.Sound s.settings.notice

theorem State.NoticesSound.congr {s t : State} (sound : s.NoticesSound) (notices : t.notices = s.notices)
    (settings : t.settings.notice = s.settings.notice) : t.NoticesSound := by
  rw [State.NoticesSound, notices, settings]
  exact sound

theorem State.NoticesSound.notify {s : State} (sound : s.NoticesSound) (b : NoticeBody) :
    (s.notify b).NoticesSound :=
  NoticeQueue.Sound.append sound _

theorem State.NoticesSound.notifyAll {s : State} (sound : s.NoticesSound) (bodies : List NoticeBody) :
    (s.notifyAll bodies).NoticesSound := by
  induction bodies generalizing s with
  | nil => exact sound
  | cons b rest ih => exact ih (sound.notify b)

theorem State.NoticesSound.endDrain {s : State} (sound : s.NoticesSound) (h : Nat) :
    (s.endDrain h).NoticesSound := by
  rw [State.endDrain]
  split
  · exact sound
  · split
    · split
      · exact State.NoticesSound.notify (s := s.putRecord h none) sound _
      · exact sound
    · exact sound

theorem State.NoticesSound.setGovernorState {s : State} (sound : s.NoticesSound) (g : Governor) :
    (s.setGovernorState g).NoticesSound := by
  rw [State.setGovernorState]
  split
  · exact sound
  · exact State.NoticesSound.notify (s := { s with gov := g }) sound _

theorem State.MediumWork.noticesSound {s u : State} {b : MessageBody} (work : s.MediumWork b u)
    (sound : s.NoticesSound) : u.NoticesSound := by
  cases work with
  | nothing => exact sound
  | visits =>
    have frame := State.walk_frame s.readings ‹Nat› (s.classOrder s.readings) 0 s
    exact sound.congr frame.notices (congrArg _ frame.settings)
  | completion => exact (sound.congr (by simp) (by simp)).endDrain _
  | heard | demand => exact sound.congr (by simp) (by simp)
  | @stranger h => exact State.NoticesSound.notify (s := { s with strangers := _ }) sound _
  | resync =>
    have freed : ({ s.returnAll with records := s.records.map slotAfterResync } : State).NoticesSound := sound
    exact freed.notifyAll _

theorem State.ExpiryWork.noticesSound {s u : State} (work : s.ExpiryWork u) (sound : s.NoticesSound) :
    u.NoticesSound := by
  cases work with
  | nothing => exact sound
  | expire =>
    rw [State.expire]
    exact ((sound.congr (by simp) (by simp)).notify _).endDrain _

theorem State.SweepWork.noticesSound {s u : State} (work : s.SweepWork u) (sound : s.NoticesSound) :
    u.NoticesSound := by
  cases work with
  | nothing => exact sound
  | @age h r =>
    simp only [State.age]
    refine State.NoticesSound.notify ?_ _
    split <;> exact sound.congr (by simp) (by simp)
  | count => exact sound

theorem State.HostWork.noticesSound {s u : State} {r : Request} (work : s.HostWork r u)
    (fits : r.Fits s.settings) (count : 1 ≤ s.settings.notice.coalesceCount) (sound : s.NoticesSound) :
    u.NoticesSound := by
  cases work with
  | @amend h a =>
    have frame := s.applyAmendment_frame h a
    exact sound.congr frame.notices (congrArg _ frame.settings)
  | @setClass c i =>
    refine sound.congr (s.applyClass_frame c i).notices ?_
    simp only [State.applyClass]
    split <;> rfl
  | setGovernor i =>
    refine State.NoticesSound.setGovernorState ?_ _
    exact sound
  | setNotice i => exact NoticeQueue.Sound.afterCount sound i fits
  | fetchNotices n => exact NoticeQueue.Sound.fetched sound count n
  | nothing | admission | setScheduler | setPresence | readGovernor | hold | retire | clearMarks
  | setTierWrite | setTierInvalidate | resetAccounts =>
    exact sound.congr (by simp [State.admitAt]) (by simp [State.admitAt])

/-! ### What taking a message does -/

theorem bitsAt_lt (w : Word) (lo n : Nat) : bitsAt w lo n < 2 ^ n := Nat.mod_lt _ (Nat.two_pow_pos n)

theorem RawMessage.fields_of_check {m : RawMessage} {b : MessageBody} (h : m.check = .ok b) :
    m.fields = some b := by
  rw [RawMessage.check] at h
  split at h
  · cases h
  · split at h
    · cases h
    · split at h
      · cases h
      · split at h
        · cases h
        · rename_i found
          cases h
          exact found

theorem RawMessage.check_resync {m : RawMessage} {b : MessageBody} (h : m.check = .ok b)
    (kind : m.kind = resyncKind) : b = .resync := by
  have fields := RawMessage.fields_of_check h
  rw [RawMessage.fields, kind] at fields
  simpa [resyncKind, eq_comm] using fields

theorem RawMessage.check_quiet {m : RawMessage} {d : Nat} (h : m.check = .ok (.quiet d)) : d ≤ 65535 := by
  have fields := RawMessage.fields_of_check h
  rw [RawMessage.fields] at fields
  have high := bitsAt_lt (m.word 0) 0 1
  have low := bitsAt_lt (m.word 1) 0 15
  grind

/-- A message taken is answered at once, or loads the hold counter and is answered, or is held while the
engine asks for the table; in AWAIT_RESYNC the message held is a RESYNC (R155, R165, R166, R168). -/
theorem State.workMessage_cases (s : State) (m : RawMessage) :
    (∃ a, s.workMessage m = s.placeAnswer m.tag a) ∨
    (∃ d, d ≤ 65535 ∧
      s.workMessage m = { s with gov := { s.gov with hold := d } }.placeAnswer m.tag (.done none)) ∨
    (∃ b, (s.medium.engine = .awaitResync → b = .resync) ∧
      s.workMessage m =
        { s with medium := { s.medium with work := some ⟨m.tag, b⟩ } }.ask .mediumEngine) := by
  rw [State.workMessage]
  split
  · exact .inl ⟨_, rfl⟩
  · rename_i passes
    split
    · exact .inl ⟨_, rfl⟩
    · rename_i d checked
      exact .inr (.inl ⟨d, RawMessage.check_quiet checked, rfl⟩)
    · rename_i b _ checked
      refine .inr (.inr ⟨b, fun awaits => RawMessage.check_resync checked ?_, rfl⟩)
      by_contra other
      exact passes ⟨awaits, other⟩

/-- Every move keeps the Notice Queue sound (R171, R173 to R175). -/
theorem State.Move.noticesSound {s t : State} (move : s.Move t) (fits : s.PortFits)
    (count : 1 ≤ s.settings.notice.coalesceCount) (sound : s.NoticesSound) : t.NoticesSound := by
  cases move with
  | time n => exact NoticeQueue.Sound.passed sound n
  | coalesceExpired => exact NoticeQueue.Sound.expired sound
  | windowEnded => exact sound.setGovernorState _
  | medium a holder held work => exact (work.noticesSound sound).congr (by simp) (by simp)
  | host a port work => exact (work.noticesSound (fits _ port) count sound).congr (by simp) (by simp)
  | direct a port _ work => exact (work.noticesSound (fits _ port) count sound).congr (by simp) (by simp)
  | expiry work => exact (work.noticesSound sound).congr (by simp) (by simp)
  | sweep pass work => exact (work.noticesSound sound).congr (by simp) (by simp)
  | @take m rest =>
    rcases State.workMessage_cases { s with medium := { s.medium with inbound := rest } } m with
      ⟨a, same⟩ | ⟨d, -, same⟩ | ⟨b, -, same⟩ <;> rw [same] <;> exact sound.congr (by simp) (by simp)
  | ticketDue =>
    rw [State.ticketDue]
    split <;> exact sound.congr (by simp) (by simp)
  | periodExpired =>
    simp only [State.periodExpired]
    split <;> exact sound.congr (by simp) (by simp)
  | submitted =>
    rw [State.startRequest]
    split <;> exact sound.congr (by simp) (by simp)
  | reset port pending blocks =>
    rw [State.NoticesSound, blocks.notices, blocks.settings]
    exact NoticeQueue.reset_sound
  | word | read | link | refused | pins => exact sound

/-! ### The Load Governor -/

/-- What the laws ask of the Load Governor under these settings (R142, R148, R150, R154). -/
structure Governor.Sound (g : Governor) (c : GovernorSettings) : Prop where
  calm : g.load = .calm → g.countdown = 0
  off : c.mode = false → g.load = .calm
  window : g.windowUsage ≤ 16777215
  podium : g.podiumUsage ≤ 16777215
  hold : g.hold ≤ 4000000

theorem Governor.Sound.count {g : Governor} {c : GovernorSettings} (sound : g.Sound c) (n : Nat)
    (podium : Bool) : (g.count n podium).Sound c := by
  have most := sound.podium
  refine ⟨sound.calm, sound.off, Nat.min_le_left _ _, ?_, sound.hold⟩
  simp only [Governor.count, Config.usageMax]
  split <;> omega

theorem Governor.Sound.setHold {g : Governor} {c : GovernorSettings} (sound : g.Sound c) {n : Nat}
    (most : n ≤ 4000000) : Governor.Sound { g with hold := n } c :=
  ⟨sound.calm, sound.off, sound.window, sound.podium, most⟩

theorem judgeLoad_calm {c : GovernorSettings} {load : Load} {countdown u : Nat}
    (h : (judgeLoad c load countdown u).1 = .calm) : (judgeLoad c load countdown u).2 = 0 := by
  simp only [judgeLoad] at h ⊢
  grind

theorem Governor.Sound.windowEnd {g : Governor} {c : GovernorSettings} (sound : g.Sound c) :
    (g.windowEnd c).Sound c := by
  refine ⟨?_, fun off => ?_, Nat.zero_le _, Nat.zero_le _, sound.hold⟩
  · simp only [Governor.windowEnd]
    split
    · exact judgeLoad_calm
    · exact sound.calm
  · simp only [Governor.windowEnd, off, Bool.false_eq_true, if_false]
    exact sound.off off

theorem Governor.Sound.restarted {g : Governor} {c : GovernorSettings} (sound : g.Sound c)
    (i : GovernorItems) : (g.restarted (i.apply c) i.mode).Sound (i.apply c) := by
  refine ⟨fun calm => ?_, fun off => ?_, Nat.zero_le _, Nat.zero_le _, sound.hold⟩
  · simp only [Governor.restarted] at calm ⊢
    split
    · rfl
    · rename_i kept
      refine sound.calm ?_
      split at calm
      · rename_i off
        cases load : g.load with
        | calm => rfl
        | crowded => exact absurd ⟨off, load⟩ kept
      · exact calm
  · simp only [Governor.restarted]
    split
    · rfl
    · rename_i kept
      cases item : i.mode with
      | none => exact sound.off (by simpa [GovernorItems.apply, item] using off)
      | some on =>
        rw [GovernorItems.apply, item] at off
        exact absurd (item.trans (congrArg some off)) kept

theorem Governor.Sound.resetAccounts {g : Governor} {c : GovernorSettings} (sound : g.Sound c) :
    g.resetAccounts.Sound c :=
  ⟨fun _ => rfl, fun _ => rfl, Nat.zero_le _, Nat.zero_le _, sound.hold⟩

theorem Governor.reset_sound : Governor.reset.Sound Settings.reset.governor :=
  ⟨fun _ => rfl, fun _ => rfl, by decide, by decide, by decide⟩

theorem State.setGovernorState_gov (s : State) (g : Governor) : (s.setGovernorState g).gov = g := by
  rw [State.setGovernorState]
  split <;> rfl

theorem State.charge_gov (s : State) (h n : Nat) :
    (s.charge h n).gov = s.gov ∨ ∃ podium, (s.charge h n).gov = s.gov.count n podium := by
  cases own : s.record h with
  | none => exact .inl (by rw [State.charge_none own])
  | some r => exact .inr ⟨_, (State.charge_some own n).2.2⟩

/-- The Load Governor is sound under the part's governor settings. -/
def State.GovernorSound (s : State) : Prop := s.gov.Sound s.settings.governor

theorem State.GovernorSound.congr {s t : State} (sound : s.GovernorSound) (gov : t.gov = s.gov)
    (settings : t.settings.governor = s.settings.governor) : t.GovernorSound := by
  rw [State.GovernorSound, gov, settings]
  exact sound

theorem State.GovernorSound.charge {s : State} (sound : s.GovernorSound) (h n : Nat) :
    (s.charge h n).GovernorSound := by
  rw [State.GovernorSound, State.charge_settings]
  rcases s.charge_gov h n with same | ⟨podium, counted⟩
  · exact same ▸ sound
  · exact counted ▸ Governor.Sound.count sound n podium

theorem State.MediumWork.governorSound {s u : State} {b : MessageBody} (work : s.MediumWork b u)
    (sound : s.GovernorSound) : u.GovernorSound := by
  cases work with
  | nothing => exact sound
  | visits offered =>
    have frame := State.walk_frame s.readings offered (s.classOrder s.readings) 0 s
    exact sound.congr frame.gov (congrArg _ frame.settings)
  | @completion c i =>
    have returned : (s.returnTicket c.ticket).GovernorSound := sound
    exact (returned.charge i.holder c.used).congr (by simp [State.acceptCompletion]) (by simp)
  | heard | stranger | demand => exact sound.congr (by simp) (by simp)
  | resync =>
    have gov : s.resynced.gov = { s.gov with hold := 0 } := by simp [State.resynced]
    rw [State.GovernorSound, gov, s.resynced_frame.settings]
    exact Governor.Sound.setHold sound (Nat.zero_le _)

theorem State.ExpiryWork.governorSound {s u : State} (work : s.ExpiryWork u) (sound : s.GovernorSound) :
    u.GovernorSound := by
  cases work with
  | nothing => exact sound
  | @expire n i =>
    have returned : (s.returnTicket n).GovernorSound := sound
    exact (returned.charge i.holder i.limit).congr (by simp [State.expire]) (by simp)

theorem State.HostWork.governorSound {s u : State} {r : Request} (work : s.HostWork r u)
    (fits : r.Fits s.settings) (sound : s.GovernorSound) : u.GovernorSound := by
  cases work with
  | @amend h a =>
    have frame := s.applyAmendment_frame h a
    exact sound.congr frame.gov (congrArg _ frame.settings)
  | @setClass c i =>
    refine sound.congr (s.applyClass_frame c i).gov ?_
    simp only [State.applyClass]
    split <;> rfl
  | setGovernor i =>
    rw [State.GovernorSound, State.setGovernorState_gov, State.setGovernorState_settings]
    exact Governor.Sound.restarted sound i
  | hold ms => exact Governor.Sound.setHold sound (by have : ms ≤ 4000 := fits; omega)
  | resetAccounts => exact Governor.Sound.resetAccounts sound
  | readGovernor clear => exact ⟨sound.calm, sound.off, sound.window, sound.podium, sound.hold⟩
  | nothing | admission | setScheduler | setPresence | setNotice | fetchNotices | retire | clearMarks
  | setTierWrite | setTierInvalidate =>
    exact sound.congr (by simp [State.admitAt]) (by simp [State.admitAt])

/-- Every move keeps the Load Governor sound (R142, R148, R150, R154). -/
theorem State.Move.governorSound {s t : State} (move : s.Move t) (fits : s.PortFits)
    (sound : s.GovernorSound) : t.GovernorSound := by
  cases move with
  | time n =>
    have most := sound.hold
    exact ⟨sound.calm, sound.off, sound.window, sound.podium, by simp only [State.passTime_gov]; omega⟩
  | windowEnded =>
    rw [State.GovernorSound, State.windowEnded, State.setGovernorState_gov, State.setGovernorState_settings]
    exact Governor.Sound.windowEnd sound
  | medium a holder held work => exact (work.governorSound sound).congr (by simp) (by simp)
  | host a port work => exact (work.governorSound (fits _ port) sound).congr (by simp) (by simp)
  | direct a port _ work => exact (work.governorSound (fits _ port) sound).congr (by simp) (by simp)
  | expiry work => exact (work.governorSound sound).congr (by simp) (by simp)
  | sweep pass work =>
    exact sound.congr (by simp [work.frame.gov]) (by simp [work.frame.settings])
  | @take m rest =>
    rcases State.workMessage_cases { s with medium := { s.medium with inbound := rest } } m with
      ⟨a, same⟩ | ⟨d, most, same⟩ | ⟨b, -, same⟩ <;> rw [same]
    · exact sound.congr (by simp) (by simp)
    · rw [State.GovernorSound, State.placeAnswer_gov, State.placeAnswer_settings]
      exact Governor.Sound.setHold sound (by omega)
    · exact sound.congr (by simp) (by simp)
  | ticketDue =>
    rw [State.ticketDue]
    split <;> exact sound.congr (by simp) (by simp)
  | periodExpired =>
    simp only [State.periodExpired]
    split <;> exact sound.congr (by simp) (by simp)
  | submitted =>
    rw [State.startRequest]
    split <;> exact sound.congr (by simp) (by simp)
  | reset port pending blocks =>
    rw [State.GovernorSound, blocks.gov, blocks.settings]
    exact Governor.reset_sound
  | word | read | link | refused | pins | coalesceExpired => exact sound

end Sys2Proof.Machine
end

section
/-! PROOF. The laws of the timebase, the Medium Port's queues, AWAIT_RESYNC and the Table Arbiter, kept by
every move. -/

namespace Sys2Proof.Machine

/-! ### The timebase -/

/-- Only the passing of time and a reset touch the timebase (R170). -/
theorem State.Move.timebaseLaw {s t : State} (move : s.Move t) (law : s.TimebaseLaw) : t.TimebaseLaw := by
  have kept : t.time = s.time → t.TimebaseLaw := fun same => by
    rw [State.TimebaseLaw, same]
    exact law
  cases move with
  | time n => exact Nat.mod_lt _ (by decide)
  | reset port pending blocks =>
    rw [State.TimebaseLaw, blocks.time]
    decide
  | medium a holder held work => exact kept (by simp [work.frame.time])
  | host a port work => exact kept (by simp [work.frame.time])
  | direct a port tableless work => exact kept (by simp [work.frame.time])
  | expiry work => exact kept (by simp [work.frame.time])
  | sweep pass work => exact kept (by simp [work.frame.time])
  | @take m rest =>
    refine kept ?_
    rcases State.workMessage_cases { s with medium := { s.medium with inbound := rest } } m with
      ⟨a, same⟩ | ⟨d, -, same⟩ | ⟨b, -, same⟩ <;> simp [same]
  | ticketDue =>
    refine kept ?_
    rw [State.ticketDue]
    split <;> simp
  | periodExpired =>
    refine kept ?_
    simp only [State.periodExpired]
    split <;> simp
  | submitted =>
    refine kept ?_
    rw [State.startRequest]
    split <;> simp
  | windowEnded => exact kept (by simp [State.windowEnded])
  | word | read | coalesceExpired | link | refused | pins => exact law

/-! ### The Medium Port -/

/-- What the laws ask of the Medium Port's queues (R160, R162, R163). -/
structure MediumPort.Bounded (p : MediumPort) : Prop where
  inbound : p.inbound.length ≤ 16
  answers : p.answers.length + p.work.isSome.toNat ≤ 16

theorem MediumPort.arrive_keeps (p : MediumPort) (m : RawMessage) :
    (p.arrive m).answers = p.answers ∧ (p.arrive m).work = p.work ∧ (p.arrive m).engine = p.engine := by
  rw [MediumPort.arrive]
  split <;> exact ⟨rfl, rfl, rfl⟩

theorem MediumPort.arrive_inbound {p : MediumPort} (m : RawMessage) (short : p.inbound.length ≤ 16) :
    (p.arrive m).inbound.length ≤ 16 := by
  rw [MediumPort.arrive]
  split
  · exact short
  · rename_i room
    simp only [Config.mediumDepth] at room
    simp
    omega

/-- A word written leaves the answers, the work and the engine, and the inbound queue within its depth. -/
theorem MediumPort.writeWord_keeps (p : MediumPort) (w : Word) :
    (p.writeWord w).answers = p.answers ∧ (p.writeWord w).work = p.work ∧
      (p.writeWord w).engine = p.engine ∧
      (p.inbound.length ≤ 16 → (p.writeWord w).inbound.length ≤ 16) := by
  rw [MediumPort.writeWord]
  split
  · rw [MediumPort.writeHeader]
    cases p.assembly with
    | none =>
      obtain ⟨answers, work, engine⟩ := p.arrive_keeps ⟨w, []⟩
      simp only
      split
      · exact ⟨answers, work, engine, MediumPort.arrive_inbound _⟩
      · exact ⟨rfl, rfl, rfl, id⟩
    | some cut =>
      obtain ⟨answers, work, engine⟩ := p.arrive_keeps cut
      obtain ⟨answers', work', engine'⟩ := (p.arrive cut).arrive_keeps ⟨w, []⟩
      simp only
      split
      · exact ⟨answers'.trans answers, work'.trans work, engine'.trans engine,
          fun short => MediumPort.arrive_inbound _ (MediumPort.arrive_inbound cut short)⟩
      · exact ⟨answers, work, engine, MediumPort.arrive_inbound cut⟩
  · rw [MediumPort.writeBody]
    cases p.assembly with
    | none => exact ⟨rfl, rfl, rfl, id⟩
    | some m =>
      obtain ⟨answers, work, engine⟩ := p.arrive_keeps { m with body := m.body ++ [w] }
      simp only
      split
      · exact ⟨answers, work, engine, MediumPort.arrive_inbound _⟩
      · exact ⟨rfl, rfl, rfl, id⟩

theorem MediumPort.Bounded.writeWord {p : MediumPort} (bounded : p.Bounded) (w : Word) :
    (p.writeWord w).Bounded := by
  obtain ⟨answers, work, -, short⟩ := p.writeWord_keeps w
  exact ⟨short bounded.inbound, by rw [answers, work]; exact bounded.answers⟩

/-- A word read removes at most the head answer. -/
theorem MediumPort.readWord_keeps (p : MediumPort) :
    p.readWord.inbound = p.inbound ∧ p.readWord.work = p.work ∧ p.readWord.engine = p.engine ∧
      p.readWord.answers.length ≤ p.answers.length := by
  rw [MediumPort.readWord]
  cases answers : p.answers with
  | nil => simp [answers]
  | cons a rest =>
    simp only
    split
    · exact ⟨rfl, rfl, rfl, by simp⟩
    · exact ⟨rfl, rfl, rfl, by simp⟩

theorem MediumPort.Bounded.readWord {p : MediumPort} (bounded : p.Bounded) : p.readWord.Bounded := by
  obtain ⟨inbound, work, -, fewer⟩ := p.readWord_keeps
  have room := bounded.answers
  exact ⟨inbound ▸ bounded.inbound, by rw [work]; omega⟩

/-- Working a message moves the engine's state only; the port's queues stay. -/
theorem State.MediumWork.medium_eq {s u : State} {b : MessageBody} (work : s.MediumWork b u) :
    ∃ e, (e = .awaitResync → s.medium.engine = .awaitResync) ∧ u.medium = { s.medium with engine := e } := by
  cases work with
  | nothing => exact ⟨_, id, rfl⟩
  | visits offered => exact ⟨_, id, (State.walk_frame s.readings offered _ 0 s).medium⟩
  | completion | heard | stranger | demand => exact ⟨s.medium.engine, id, by simp⟩
  | resync => exact ⟨.running, nofun, by simp [State.resynced]⟩

theorem State.ticketDue_medium (s : State) : s.ticketDue.medium = s.medium := by
  rw [State.ticketDue]
  split <;> simp

theorem State.periodExpired_medium (s : State) : s.periodExpired.medium = s.medium := by
  simp only [State.periodExpired]
  split <;> simp

theorem State.startRequest_medium (s : State) (r : Request) : (s.startRequest r).medium = s.medium := by
  rw [State.startRequest]
  split <;> simp

/-- The port with an answer placed: it carries the overrun mark away, and the message is done (R161,
R168). -/
def MediumPort.answered (p : MediumPort) (tag : BitVec 4) (a : MediumAnswer) : MediumPort :=
  { p with answers := p.answers ++ [⟨tag, p.overrun, a⟩], overrun := false, work := none }

theorem State.endMedium_eq_answered (s : State) (tag : BitVec 4) (a : MediumAnswer) :
    (s.endMedium tag a).medium = s.medium.answered tag a := s.endMedium_medium tag a

/-- What a move can do to the Medium Port. -/
inductive MediumPort.Change (p : MediumPort) : MediumPort → Prop
  | same : p.Change p
  | word (w : Word) : p.Change (p.writeWord w)
  | read : p.Change p.readWord
  | answeredAtOnce {m : RawMessage} {rest : List RawMessage} (room : p.answers.length < 16)
      (head : p.inbound = m :: rest) (a : MediumAnswer) :
      p.Change ({ p with inbound := rest }.answered m.tag a)
  | held {m : RawMessage} {rest : List RawMessage} (room : p.answers.length < 16)
      (head : p.inbound = m :: rest) {b : MessageBody} (awaits : p.engine = .awaitResync → b = .resync) :
      p.Change { p with inbound := rest, work := some ⟨m.tag, b⟩ }
  | worked {m : Message} (held : p.work = some m) {e : EngineState}
      (awaits : e = .awaitResync → p.engine = .awaitResync) (a : MediumAnswer) :
      p.Change ({ p with engine := e }.answered m.tag a)
  | reset : p.Change State.reset.medium

theorem State.canTake_room {s : State} (can : s.canTake = true) : s.medium.answers.length < 16 := by
  simp only [State.canTake, Bool.and_eq_true, decide_eq_true_eq] at can
  exact can.1.2

theorem State.Move.medium_change {s t : State} (move : s.Move t) : s.medium.Change t.medium := by
  have kept : t.medium = s.medium → s.medium.Change t.medium := fun same => same ▸ .same
  cases move with
  | word w => exact .word w
  | read => exact .read
  | @take m rest can head =>
    have room := State.canTake_room can
    rcases State.workMessage_cases { s with medium := { s.medium with inbound := rest } } m with
      ⟨a, same⟩ | ⟨d, -, same⟩ | ⟨b, awaits, same⟩
    · rw [same]
      exact .answeredAtOnce room head a
    · rw [same]
      exact .answeredAtOnce room head _
    · rw [same, State.ask_medium]
      exact .held room head awaits
  | medium a holder held work =>
    obtain ⟨e, awaits, same⟩ := work.medium_eq
    rw [State.endMedium_eq_answered, same]
    exact .worked held awaits a
  | reset port pending blocks => exact blocks.medium.symm ▸ .reset
  | host a port work => exact kept (by simp [work.frame.medium])
  | direct a port tableless work => exact kept (by simp [work.frame.medium])
  | expiry work => exact kept (by simp [work.frame.medium])
  | sweep pass work => exact kept (by simp [work.frame.medium])
  | ticketDue => exact kept s.ticketDue_medium
  | periodExpired => exact kept s.periodExpired_medium
  | submitted => exact kept (s.startRequest_medium _)
  | windowEnded => exact kept (by simp [State.windowEnded])
  | time | coalesceExpired | link | refused | pins => exact .same

/-- The port keeps within its depths, the place of the answer being worked kept free (R160, R162, R163). -/
theorem MediumPort.Change.bounded {p q : MediumPort} (change : p.Change q) (bounded : p.Bounded) :
    q.Bounded := by
  obtain ⟨inbound, answers⟩ := bounded
  have taken : ∀ {m rest}, p.inbound = m :: rest → rest.length ≤ 16 := fun head => by
    rw [head, List.length_cons] at inbound
    omega
  cases change with
  | same => exact ⟨inbound, answers⟩
  | word w => exact MediumPort.Bounded.writeWord ⟨inbound, answers⟩ w
  | read => exact MediumPort.Bounded.readWord ⟨inbound, answers⟩
  | answeredAtOnce room head a => exact ⟨taken head, by simpa [MediumPort.answered] using room⟩
  | held room head => exact ⟨taken head, room⟩
  | worked held _ a =>
    rw [held] at answers
    exact ⟨inbound, by simpa [MediumPort.answered] using answers⟩
  | reset => exact ⟨by decide, by decide⟩

/-- In AWAIT_RESYNC the only message held is a RESYNC (R165). -/
def MediumPort.HoldsOnlyResync (p : MediumPort) : Prop :=
  p.engine = .awaitResync → ∀ m, p.work = some m → m.body = .resync

theorem MediumPort.Change.holdsOnlyResync {p q : MediumPort} (change : p.Change q)
    (only : p.HoldsOnlyResync) : q.HoldsOnlyResync := by
  cases change with
  | same => exact only
  | word w =>
    obtain ⟨-, work, engine, -⟩ := p.writeWord_keeps w
    rw [MediumPort.HoldsOnlyResync, work, engine]
    exact only
  | read =>
    obtain ⟨-, work, engine, -⟩ := p.readWord_keeps
    rw [MediumPort.HoldsOnlyResync, work, engine]
    exact only
  | held room head awaits =>
    intro engine m work
    cases work
    exact awaits engine
  | answeredAtOnce | worked | reset =>
    intro engine m work
    cases work

/-! ### AWAIT_RESYNC -/

/-- Every ticket is FREE. -/
def State.AllFree (s : State) : Prop := ∀ n, (s.ticket n).issued = false

theorem State.AllFree.congr {s t : State} (free : s.AllFree) (holders : t.holders = s.holders) :
    t.AllFree := fun n => by
  rw [State.issued_eq_false, holders, ← State.issued_eq_false]
  exact free n

theorem State.AllFree.issue {s : State} (free : s.AllFree) (n : Nat) : (s.ticket n).issue = none := by
  simpa [Ticket.issued] using free n

theorem State.workMessage_engine (s : State) (m : RawMessage) :
    (s.workMessage m).medium.engine = s.medium.engine := by
  rcases s.workMessage_cases m with ⟨a, same⟩ | ⟨d, -, same⟩ | ⟨b, -, same⟩ <;> rw [same]
  · rfl
  · rfl
  · rw [State.ask_medium]

/-- In AWAIT_RESYNC a move issues no ticket: the message worked can only be a RESYNC, which leaves
AWAIT_RESYNC (R121, R165). -/
theorem State.Move.allFree {s t : State} (move : s.Move t) (only : s.medium.HoldsOnlyResync)
    (free : s.medium.engine = .awaitResync → s.AllFree) (awaits : t.medium.engine = .awaitResync) :
    t.AllFree := by
  have stays : t.medium.engine = s.medium.engine → t.holders = s.holders → t.AllFree :=
    fun engine holders => (free (engine.symm.trans awaits)).congr holders
  have kept : t.medium = s.medium → t.tickets = s.tickets → t.AllFree :=
    fun medium tickets => stays (congrArg _ medium) (State.holders_congr tickets)
  cases move with
  | reset port pending blocks =>
    have none_issued : State.reset.AllFree := fun n => by rw [ticket_of_reset]; rfl
    exact none_issued.congr (State.holders_congr blocks.tickets)
  | @medium m u a holder held work =>
    have holders : (u.endMedium m.tag a).holders = u.holders := State.holders_congr (by simp)
    have engine : (u.endMedium m.tag a).medium.engine = u.medium.engine := by
      rw [State.endMedium_eq_answered]
      rfl
    obtain ⟨e, before, medium⟩ := work.medium_eq
    have began : s.medium.engine = .awaitResync := before (by rwa [engine, medium] at awaits)
    rw [only began m held] at work
    cases work with
    | nothing => exact (free began).congr holders
    | resync =>
      rw [engine] at awaits
      simp [State.resynced] at awaits
  | @expiry u work =>
    cases work with
    | nothing => exact kept (by simp) (by simp)
    | expire issued =>
      rw [State.release_medium] at awaits
      rw [(free (by simpa using awaits)).issue] at issued
      cases issued
  | time n => exact stays rfl (s.holders_passTime n)
  | word w => exact stays (s.medium.writeWord_keeps w).2.2.1 rfl
  | read => exact stays s.medium.readWord_keeps.2.2.1 rfl
  | take => exact stays (State.workMessage_engine _ _) (State.workMessage_sameTable _ _).holders
  | host a port work =>
    exact kept (by simp [work.frame.medium]) (by simp [work.frame.tickets])
  | direct a port tableless work =>
    exact kept (by simp [work.frame.medium]) (by simp [work.frame.tickets])
  | sweep pass work =>
    exact kept (by simp [work.frame.medium]) (by simp [work.frame.tickets])
  | ticketDue => exact stays (congrArg _ s.ticketDue_medium) s.ticketDue_sameTable.holders
  | periodExpired => exact stays (congrArg _ s.periodExpired_medium) s.periodExpired_sameTable.holders
  | submitted => exact stays (congrArg _ (s.startRequest_medium _)) (s.startRequest_sameTable _).holders
  | windowEnded => exact kept (by simp [State.windowEnded]) (by simp [State.windowEnded])
  | coalesceExpired | link | refused | pins => exact kept rfl rfl

/-- Every move keeps the law of AWAIT_RESYNC (R121, R165). -/
theorem State.Move.awaitLaw {s t : State} (move : s.Move t) (law : s.AwaitLaw) : t.AwaitLaw :=
  ⟨move.allFree law.work law.free, move.medium_change.holdsOnlyResync law.work⟩

/-! ### The Table Arbiter -/

theorem State.arbiterLaw_iff (s : State) : s.ArbiterLaw ↔
    (s.arbiter.holder = none → ∀ c, s.asking c = false) ∧
    (∀ c, s.arbiter.holder = some c → s.asking c = true ∧ s.arbiter.lastServed = c) :=
  ⟨fun law => ⟨law.free, law.held⟩, fun law => ⟨law.1, law.2⟩⟩

/-- The end of a transaction leaves the arbiter as its law asks, whatever came before (R19). -/
theorem State.release_arbiterLaw (s : State) : s.release.ArbiterLaw := by
  have asking : s.release.asking = s.asking := by
    funext c
    cases c <;> simp [State.asking]
  rw [State.arbiterLaw_iff, asking, State.release]
  cases next : s.arbiter.lastServed.after.find? s.asking with
  | none =>
    refine ⟨fun _ c => ?_, nofun⟩
    simpa using List.find?_eq_none.1 next c (Client.mem_after _ c)
  | some d => exact ⟨nofun, fun c held => by cases held; exact ⟨List.find?_some next, rfl⟩⟩

/-- The arbiter's law reads the arbiter and which clients ask. -/
theorem State.ArbiterLaw.congr {s t : State} (law : s.ArbiterLaw) (arbiter : t.arbiter = s.arbiter)
    (asking : t.asking = s.asking) : t.ArbiterLaw :=
  ⟨by rw [arbiter, asking]; exact law.free, by rw [arbiter, asking]; exact law.held⟩

/-- A client that begins to ask is granted a free table at once, and waits for a held one (R19). -/
theorem State.ArbiterLaw.ask {s u : State} {c : Client} (law : s.ArbiterLaw) (arbiter : u.arbiter = s.arbiter)
    (now : u.asking c = true) (others : ∀ d, d ≠ c → u.asking d = s.asking d) : (u.ask c).ArbiterLaw := by
  have asking : (u.ask c).asking = u.asking := by
    funext d
    cases d <;> simp [State.asking]
  cases holder : u.arbiter.holder with
  | none =>
    have granted := State.ask_free (c := c) holder
    refine ⟨fun free => ?_, fun d held => ?_⟩
    · rw [granted] at free
      cases free
    · rw [granted] at held ⊢
      cases held
      exact ⟨asking ▸ now, rfl⟩
  | some e =>
    rw [State.ask_held holder]
    refine ⟨fun free => ?_, fun d held => ?_⟩
    · rw [holder] at free
      cases free
    · obtain ⟨asked, served⟩ := law.held d (arbiter ▸ held)
      refine ⟨?_, arbiter ▸ served⟩
      by_cases same : d = c
      · exact same ▸ now
      · rw [others d same]
        exact asked

/-- Which clients ask, read off the parts they are. -/
theorem State.asking_congr {s t : State} (work : t.medium.work.isSome = s.medium.work.isSome)
    (port : t.asking .requestEngine = s.asking .requestEngine) (timer : t.timerAsked = s.timerAsked)
    (pass : t.sweeper.pass.isSome = s.sweeper.pass.isSome) : t.asking = s.asking := by
  funext c
  cases c with
  | mediumEngine => exact work
  | requestEngine => exact port
  | ticketTimer => exact timer
  | sweeper => exact pass

theorem State.asking_requestEngine {s : State} {r : Request} (port : s.req.port = .working r) :
    s.asking .requestEngine = r.usesTable := by
  simp [State.asking, port]

theorem State.asking_requestEngine_quiet {s : State}
    (port : s.req.port = .idle ∨ ∃ a, s.req.port = .answerReady a) : s.asking .requestEngine = false := by
  rcases port with idle | ⟨a, ready⟩
  · simp [State.asking, idle]
  · simp [State.asking, ready]

theorem State.asking_port {s t : State} (port : t.req.port = s.req.port) :
    t.asking .requestEngine = s.asking .requestEngine := by
  simp only [State.asking, port]

/-- A request leaves the position of a pass as it is (R72). -/
theorem State.HostWork.pass {s u : State} {r : Request} (work : s.HostWork r u) :
    u.sweeper.pass = s.sweeper.pass := by
  cases work with
  | setPresence i =>
    simp only [Sweeper.afterPresence]
    split <;> rfl
  | @amend h a => rw [(s.applyAmendment_frame h a).sweeper]
  | @setClass c i => rw [(s.applyClass_frame c i).sweeper]
  | nothing | admission | retire | clearMarks | setTierWrite | setTierInvalidate | setScheduler
  | setGovernor | setNotice | readGovernor | hold | fetchNotices | resetAccounts => simp [State.admitAt]

theorem State.workMessage_arbiterLaw {s : State} (law : s.ArbiterLaw) (m : RawMessage)
    (free : s.medium.work = none) : (s.workMessage m).ArbiterLaw := by
  rcases s.workMessage_cases m with ⟨a, same⟩ | ⟨d, -, same⟩ | ⟨b, -, same⟩ <;> rw [same]
  · exact law.congr rfl (State.asking_congr (by simp [State.placeAnswer, free]) rfl rfl rfl)
  · exact law.congr rfl (State.asking_congr (by simp [State.placeAnswer, free]) rfl rfl rfl)
  · exact law.ask rfl rfl fun
      | .mediumEngine, other => absurd rfl other
      | .requestEngine, _ | .ticketTimer, _ | .sweeper, _ => rfl

theorem State.startRequest_arbiterLaw {s : State} (law : s.ArbiterLaw) (r : Request)
    (idle : s.req.port = .idle) : (s.startRequest r).ArbiterLaw := by
  have quiet := State.asking_requestEngine_quiet (.inl idle)
  rw [State.startRequest]
  split
  · rename_i table
    exact law.ask rfl table fun
      | .requestEngine, other => absurd rfl other
      | .mediumEngine, _ | .ticketTimer, _ | .sweeper, _ => rfl
  · rename_i tableless
    refine law.congr rfl (State.asking_congr rfl ?_ rfl rfl)
    rw [quiet]
    simpa [State.asking] using tableless

theorem State.ticketDue_arbiterLaw {s : State} (law : s.ArbiterLaw) : s.ticketDue.ArbiterLaw := by
  rw [State.ticketDue]
  split
  · exact law
  · exact law.ask rfl rfl fun
      | .ticketTimer, other => absurd rfl other
      | .mediumEngine, _ | .requestEngine, _ | .sweeper, _ => rfl

theorem State.periodExpired_arbiterLaw {s : State} (law : s.ArbiterLaw) : s.periodExpired.ArbiterLaw := by
  simp only [State.periodExpired]
  split
  · rename_i h pass
    exact law.congr rfl (State.asking_congr rfl rfl rfl (by simp [pass]))
  · exact law.ask rfl rfl fun
      | .sweeper, other => absurd rfl other
      | .mediumEngine, _ | .requestEngine, _ | .ticketTimer, _ => rfl

/-- Every move keeps the law of the Table Arbiter (R19): the end of a transaction makes it hold again, a
client that begins to ask keeps it, and the other moves leave who asks as it is. -/
theorem State.Move.arbiterLaw {s t : State} (move : s.Move t) (law : s.ArbiterLaw) : t.ArbiterLaw := by
  cases move with
  | medium | host | expiry | sweep => exact State.release_arbiterLaw _
  | @take m rest can head =>
    refine State.workMessage_arbiterLaw (s := { s with medium := { s.medium with inbound := rest } })
      (law.congr rfl (State.asking_congr rfl rfl rfl rfl)) m ?_
    simp only [State.canTake, Bool.and_eq_true, Option.isNone_iff_eq_none] at can
    exact can.1.1
  | submitted idle => exact State.startRequest_arbiterLaw law _ idle
  | ticketDue => exact State.ticketDue_arbiterLaw law
  | periodExpired => exact State.periodExpired_arbiterLaw law
  | word w =>
    exact law.congr rfl (State.asking_congr (congrArg _ (s.medium.writeWord_keeps w).2.1) rfl rfl rfl)
  | read => exact law.congr rfl (State.asking_congr (congrArg _ s.medium.readWord_keeps.2.1) rfl rfl rfl)
  | direct a port tableless work =>
    refine law.congr (by simp [work.frame.arbiter]) (State.asking_congr (by simp [work.frame.medium]) ?_
      (by simp [work.frame.timerAsked]) (by simp [work.pass]))
    rw [State.asking_requestEngine_quiet (.inr ⟨a, rfl⟩), State.asking_requestEngine port, tableless]
  | link port =>
    refine law.congr rfl (State.asking_congr rfl ?_ rfl rfl)
    rcases port with same | ⟨idle, ready⟩
    · exact State.asking_port same
    · rw [State.asking_requestEngine_quiet (.inr ready)]
      exact State.asking_requestEngine_quiet (.inl idle)
  | refused a idle =>
    refine law.congr rfl (State.asking_congr rfl ?_ rfl rfl)
    rw [State.asking_requestEngine_quiet (.inl idle)]
    exact State.asking_requestEngine_quiet (.inr ⟨a, rfl⟩)
  | reset port pending blocks =>
    refine ⟨fun _ c => ?_, fun c held => ?_⟩
    · cases c with
      | mediumEngine =>
        rw [State.asking, blocks.medium]
        rfl
      | requestEngine => exact State.asking_requestEngine_quiet port
      | ticketTimer =>
        rw [State.asking, blocks.timerAsked]
        rfl
      | sweeper =>
        rw [State.asking, blocks.sweeper]
        rfl
    · rw [blocks.arbiter] at held
      cases held
  | windowEnded =>
    exact law.congr (by simp [State.windowEnded]) (State.asking_congr (by simp [State.windowEnded])
      (State.asking_port (by simp [State.windowEnded])) (by simp [State.windowEnded])
      (by simp [State.windowEnded]))
  | time | coalesceExpired | pins => exact law.congr rfl (State.asking_congr rfl rfl rfl rfl)

end Sys2Proof.Machine
end

section
/-! PROOF. Every law of the part, kept by every move and so by every step; the reset state obeys them
(O58, O60, O8). -/

namespace Sys2Proof.Machine

/-! ### What the laws say of the settings, the port, the notices and the governor -/

theorem State.Lawful.settingsSound {s : State} (law : s.Lawful) : s.settings.Sound :=
  ⟨law.classSettings.inRange, law.tier.table, law.attention.count, law.governor.thresholds⟩

theorem State.Lawful.portFits {s : State} (law : s.Lawful) : s.PortFits := fun r port => by
  cases r with
  | setClass c i => exact law.classSettings.held c i port
  | setTierWrite k e => exact law.tier.held k e port
  | setGovernor i => exact law.governor.held i port
  | setNotice i => exact fun n => law.attention.held i n port
  | hold ms => exact law.governor.heldHold ms port
  | _ => trivial

theorem State.Lawful.noticesSound {s : State} (law : s.Lawful) : s.NoticesSound :=
  ⟨law.attention.reached, law.attention.timer, law.queue.notices⟩

theorem State.Lawful.governorSound {s : State} (law : s.Lawful) : s.GovernorSound :=
  ⟨law.governor.calm, law.governor.off, law.governor.window, law.governor.podium, law.governor.hold⟩

theorem State.Lawful.mediumBounded {s : State} (law : s.Lawful) : s.medium.Bounded :=
  ⟨law.queue.inbound, law.queue.answers⟩

/-- The laws of the Station Table, the tickets and the lists, with the rest of the laws from what the
settings, the port, the notices, the governor and the Medium Port must be. -/
theorem State.Lawful.of_sound {s : State} (pool : s.PoolLaw) (holder : s.HolderLaw) (list : s.ListLaw)
    (index : s.IndexLaw) (filter : s.FilterLaw) (occupancy : s.OccupancyLaw) (balance : s.BalanceLaw)
    (await : s.AwaitLaw) (skip : s.SkipLaw) (arbiter : s.ArbiterLaw) (timebase : s.TimebaseLaw)
    (settings : s.settings.Sound) (port : s.PortFits) (notices : s.NoticesSound)
    (governor : s.GovernorSound) (medium : s.medium.Bounded) : s.Lawful where
  pool := pool
  classSettings := ⟨settings.classes, fun _ _ held => port _ held⟩
  holder := holder
  list := list
  index := index
  filter := filter
  occupancy := occupancy
  balance := balance
  tier := ⟨settings.tiers, fun _ _ held => port _ held⟩
  queue := ⟨medium.inbound, medium.answers, notices.short⟩
  await := await
  skip := skip
  arbiter := arbiter
  attention := ⟨notices.reached, notices.timer, settings.notice, fun _ n held => port _ held n⟩
  governor := ⟨governor.calm, governor.off, governor.window, governor.podium, governor.hold,
    fun _ held => port _ held, settings.thresholds, fun _ held => port _ held⟩
  timebase := timebase

/-! ### Moves and steps -/

/-- Every move keeps every law. -/
theorem State.Move.lawful {s t : State} (move : s.Move t) (law : s.Lawful) : t.Lawful :=
  have settings := law.settingsSound
  have port := law.portFits
  have range := law.classSettings.inRange
  .of_sound (move.poolLaw law.pool) (move.holderLaw law.pool range law.holder) (move.listLaw law.list)
    (move.indexLaw law.index) (move.filterLaw law.filter) (move.occupancyLaw law.occupancy)
    (move.balanceLaw range law.balance) (move.awaitLaw law.await) (move.skipLaw law.skip)
    (move.arbiterLaw law.arbiter) (move.timebaseLaw law.timebase) (move.settingsSound port settings)
    (move.portFits settings port)
    (move.noticesSound port law.attention.count.1 law.noticesSound)
    (move.governorSound port law.governorSound) (move.medium_change.bounded law.mediumBounded)

/-- Moves keep what every move keeps. -/
theorem State.Moves.keep {P : State → Prop} (each : ∀ {s t : State}, s.Move t → P s → P t) {s t : State}
    (moves : s.Moves t) (law : P s) : P t := by
  induction moves with
  | refl => exact law
  | tail _ move ih => exact each move ih

theorem State.idle_moves (s : State) : s.Moves s.idle := by
  rw [State.idle]
  split
  · exact .refl
  · exact .single (.time 1)

/-- A step is made of moves, after the command that it runs has left the queue. -/
theorem step_moves {s t : State} (h : step s = .next t) :
    s.Moves t ∨ ∃ rest, State.Moves { s with pending := rest } t := by
  have of_exec : ∀ {c u}, exec c u = .next t → u.Moves t := fun {c u} ran => by
    obtain ⟨v, answer, moves⟩ := exec_answers c u
    cases answer.symm.trans ran
    exact moves
  rw [step] at h
  split at h
  · exact .inr ⟨_, of_exec h⟩
  · split at h
    · exact .inl (of_exec h)
    · cases h
      exact .inl s.idle_moves

/-- A step keeps what every move keeps, when the command queue has no part in it. -/
theorem step_keeps {P : State → Prop} (each : ∀ {s t : State}, s.Move t → P s → P t)
    (queue : ∀ {s : State}, P s → ∀ rest, P { s with pending := rest }) {s t : State} (law : P s)
    (h : step s = .next t) : P t := by
  rcases step_moves h with moves | ⟨rest, moves⟩
  · exact moves.keep each law
  · exact moves.keep each (queue law rest)

theorem State.Lawful.withPending {s : State} (law : s.Lawful) (rest : List Instr) :
    State.Lawful { s with pending := rest } :=
  .of_sound ⟨law.pool.nodup, law.pool.exact⟩
    ⟨law.holder.held, law.holder.free, law.holder.most, law.holder.draining⟩
    ⟨law.list.nodup, law.list.exact⟩ law.index
    ⟨law.filter.short, law.filter.nodup, law.filter.strange⟩ law.occupancy law.balance
    ⟨law.await.free, law.await.work⟩ ⟨law.skip.most, law.skip.empty⟩
    ⟨law.arbiter.free, law.arbiter.held⟩ law.timebase law.settingsSound law.portFits law.noticesSound
    law.governorSound law.mediumBounded

/-! ### The obligations -/

/-- Settles O58: ListLaw and IndexLaw are each kept by every move on their own. -/
theorem stepKeepsListAndIndexLaws : Obligations.StepKeepsListAndIndexLaws :=
  ⟨fun _ _ law => step_keeps (P := State.ListLaw) State.Move.listLaw
      (fun law _ => ⟨law.nodup, law.exact⟩) law,
    fun _ _ law => step_keeps (P := State.IndexLaw) State.Move.indexLaw (fun law _ => law) law⟩

/-- Settles O60: every move keeps every law. -/
theorem stepKeepsLawful : Obligations.StepKeepsLawful := fun _ _ law =>
  step_keeps State.Move.lawful State.Lawful.withPending law

/-- Settles O8: the reset values obey the laws. -/
theorem resetIsLawful : Obligations.ResetIsLawful :=
  .of_sound State.reset_poolLaw State.reset_holderLaw State.reset_listLaw State.reset_indexLaw
    State.reset_filterLaw State.reset_occupancyLaw State.reset_balanceLaw
    ⟨fun _ n => by rw [State.ticket_of_reset]; rfl, fun _ _ => nofun⟩ State.reset_skipLaw
    ⟨fun _ c => by cases c <;> rfl, fun _ => nofun⟩ (Nat.zero_lt_succ _) Settings.reset_sound
    (.of_quiet fun _ => nofun) NoticeQueue.reset_sound Governor.reset_sound ⟨by decide, by decide⟩

end Sys2Proof.Machine
end

section
/-! PROOF. What every command answers, the commands whose event cannot happen, and the resets (O5, O6, O7,
O9, O11). -/

namespace Sys2Proof.Machine

/-! ### Every command answers a next state (O5) -/

/-- No move touches the command queue. -/
theorem State.Move.pending {s t : State} (move : s.Move t) : t.pending = s.pending := by
  cases move with
  | reset port pending blocks => exact pending
  | medium a holder held work => simp [work.frame.pending]
  | host a port work => simp [work.frame.pending]
  | direct a port tableless work => simp [work.frame.pending]
  | expiry work => simp [work.frame.pending]
  | sweep pass work => simp [work.frame.pending]
  | @take m rest =>
    rcases State.workMessage_cases { s with medium := { s.medium with inbound := rest } } m with
      ⟨a, same⟩ | ⟨d, -, same⟩ | ⟨b, -, same⟩ <;> simp [same]
  | ticketDue =>
    rw [State.ticketDue]
    split <;> simp
  | periodExpired =>
    simp only [State.periodExpired]
    split <;> simp
  | submitted =>
    rw [State.startRequest]
    split <;> simp
  | windowEnded => simp [State.windowEnded]
  | time | word | read | coalesceExpired | link | refused | pins => rfl

/-- Settles O5: every command is made of moves, and none of them touches the command queue. -/
theorem everyCommandAnswersNext : Obligations.EveryCommandAnswersNext := fun c s => by
  obtain ⟨t, answer, moves⟩ := exec_answers c s
  exact ⟨t, answer, moves.keep (P := fun u => u.pending = s.pending)
    (fun move same => move.pending.trans same) rfl⟩

/-! ### Commands without their event (O6) -/

/-- What does nothing out of reset does nothing. -/
theorem State.unlessReset_still {s : State} {f : State → State} (still : f s = s) :
    s.unlessReset f = .next s := by
  rw [State.unlessReset, still, ite_self]

theorem State.inMediumTransaction_elsewhere {s : State} (away : s.arbiter.holder ≠ some .mediumEngine)
    (f : Message → Option State) : s.inMediumTransaction f = .next s := by
  refine State.unlessReset_still ?_
  split
  · contradiction
  · rfl

theorem State.inHostTransaction_elsewhere {s : State}
    (away : s.arbiter.holder ≠ some .requestEngine ∨ ∀ r, s.req.port ≠ .working r)
    (f : Request → Option State) : s.inHostTransaction f = .next s := by
  refine State.unlessReset_still ?_
  split
  · rename_i r holder port
    exact (away.elim (· holder) (· r port)).elim
  · rfl

theorem State.inHostRequest_elsewhere {s : State} (away : ∀ r, s.req.port ≠ .working r)
    (f : Request → Option State) : s.inHostRequest f = .next s := by
  refine State.unlessReset_still ?_
  split
  · rename_i r port
    exact absurd port (away r)
  · rfl

/-- In reset only HARD_RESET does anything (R20). -/
theorem exec_in_reset {s : State} (c : Instr) (other : ∀ p q, c ≠ .hardReset p q)
    (reset : s.inReset = true) : exec c s = .next s := by
  cases c with
  | hardReset p q => exact absurd rfl (other p q)
  | _ => exact congrArg Host.Outcome.next (if_pos reset)

/-- The commands of the requests that always take the table. -/
def tableCommands : List Instr :=
  [.admitStation, .amend, .retire, .lookup, .readRecord, .list, .readTickets, .setClass, .setTierWrite,
    .setTierInvalidate, .setScheduler, .resetFull, .resetAccounts]

theorem exec_tableCommand {s : State}
    (away : s.arbiter.holder ≠ some .requestEngine ∨ ∀ r, s.req.port ≠ .working r) {c : Instr}
    (table : c ∈ tableCommands) : exec c s = .next s := by
  rw [tableCommands] at table
  fin_cases table <;> exact State.inHostTransaction_elsewhere away _

/-- The commands of the other requests. -/
def directCommands : List Instr :=
  [.identify, .setPresence, .setGovernor, .setNotice, .readSettings, .readGovernor, .hold, .fetchNotices]

theorem exec_directCommand {s : State} (away : ∀ r, s.req.port ≠ .working r) {c : Instr}
    (direct : c ∈ directCommands) : exec c s = .next s := by
  rw [directCommands] at direct
  fin_cases direct <;> exact State.inHostRequest_elsewhere away _

theorem exec_sweeperStep_elsewhere {s : State} (away : s.arbiter.holder ≠ some .sweeper) :
    exec .sweeperStep s = .next s := by
  rw [exec, execSweeperStep]
  refine State.unlessReset_still ?_
  split
  · contradiction
  · rfl

theorem State.canTake_eq_false {s : State}
    (h : s.medium.work.isSome = true ∨ 16 ≤ s.medium.answers.length ∨ s.medium.inbound = []) :
    s.canTake = false := by
  simp only [State.canTake, Config.mediumDepth]
  rcases h with working | full | empty
  · cases work : s.medium.work with
    | none => simp [work] at working
    | some m => rfl
  · simp [Nat.not_lt.2 full]
  · simp [empty]

/-- Settles O6: each guard that a command stands behind leaves the state as it is. -/
theorem commandsWithoutTheirEvent : Obligations.CommandsWithoutTheirEvent := by
  intro s
  refine ⟨exec_in_reset, fun away c mem => ?_, fun away c => exec_tableCommand (.inl away),
    fun away c mem => ?_, fun away => State.unlessReset_still (if_neg fun h => away h.1),
    exec_sweeperStep_elsewhere, fun cannot => ?_⟩
  · fin_cases mem <;> exact State.inMediumTransaction_elsewhere away _
  · rcases List.mem_append.1 (show c ∈ directCommands ++ tableCommands from mem) with direct | table
    · exact exec_directCommand away direct
    · exact exec_tableCommand (.inr away) table
  · refine State.unlessReset_still ?_
    rw [State.canTake_eq_false cannot]
    rfl

/-! ### Resets (O7, O9, O11) -/

theorem State.classList_reset (c : Cls) : State.reset.lists.get c = [] := by cases c <;> rfl

/-- Settles O7: the reset state, field by field. -/
theorem resetValues : Obligations.ResetValues :=
  ⟨State.record_reset, State.classList_reset, rfl, State.ticket_of_reset, rfl, rfl, rfl, rfl, rfl, rfl, rfl,
    rfl, rfl, rfl, rfl, rfl, rfl, rfl, rfl, rfl, rfl,
    fun k pos => (Settings.tier_reset k).trans (if_neg (by omega)), rfl, rfl, rfl, rfl⟩

theorem State.issuedCount_eq (s : State) :
    s.issuedCount = (s.tickets.toList.filter fun x => x.issue.isSome).length := by
  rw [State.issuedCount, List.countP_eq_length_filter]
  rfl

/-- Settles O9: by which of the two inputs hold, and whether the part is already in reset. -/
theorem hardReset : Obligations.HardReset := by
  intro s powerOn pin
  by_cases holds : (powerOn || pin) = true
  · refine ⟨_, if_pos holds, rfl, fun _ => ⟨rfl, .of_parts fun p => ?_⟩, ?_, ?_, ?_, ?_⟩
    · cases p <;> simp [Part.Same]
    · rintro rfl
      rfl
    · rintro rfl - free
      simp [State.hardResetRecord, free, s.issuedCount_eq]
    · rintro rfl - held
      simp [State.hardResetRecord, held]
    · rintro rfl rfl
      cases holds
  · obtain ⟨rfl, rfl⟩ : powerOn = false ∧ pin = false := by simpa using holds
    exact ⟨_, rfl, rfl, nofun, nofun, nofun, nofun, fun _ _ => .of_parts fun p => by
      cases p <;> simp [Part.Same]⟩

/-- Settles O11: the transaction gives every block its reset value and keeps the link. -/
theorem resetFull : Obligations.ResetFull := fun s ready =>
  ⟨_, State.inHostTransaction_ready ready _, congrArg _ s.issuedCount_eq, rfl, rfl, rfl,
    .of_parts fun p => by cases p <;> simp [Part.Same]⟩

end Sys2Proof.Machine
end

section
/-! PROOF. The requests that read the table: the index, LOOKUP, READ_RECORD, LIST and READ_TICKETS (O41,
O45, O46, O47). -/

namespace Sys2Proof.Machine

/-! ### The index (O41) -/

/-- While no two living records share an address the index finds the one that has it (R14). -/
theorem State.indexLookup_of_record {s : State} (law : s.IndexLaw) {h : Nat} {r : Record}
    (own : s.record h = some r) (living : r.living = true) : s.indexLookup r.address = some h := by
  cases found : s.indexLookup r.address with
  | none => exact absurd rfl (State.indexLookup_eq_none.1 found h r own living)
  | some k =>
    obtain ⟨q, own', living', same⟩ := State.record_indexLookup found
    exact congrArg some (law k h q r own' own living' living same)

/-- Settles O41: the index law makes the first handle found the only one. -/
theorem indexLookup : Obligations.IndexLookup := fun _ _ law =>
  ⟨fun _ => ⟨State.record_indexLookup, fun ⟨_, own, living, same⟩ =>
      same ▸ State.indexLookup_of_record law own living⟩,
    State.indexLookup_eq_none⟩

/-! ### The end of a request -/

/-- A request that changes no more than these parts ends its transaction with its answer (R179). -/
theorem EndsHost.of_frame {s u : State} {parts : List Part} (frame : UnchangedExcept parts s u)
    (a : HostAnswer) (req : Part.req ∉ parts := by decide) (arbiter : Part.arbiter ∉ parts := by decide) :
    EndsHost s (u.endHost a) a parts where
  answered := by
    rw [HostAnswered, ← frame.req req]
    exact u.endHost_req a
  released := by
    rw [TableReleased, ← frame.arbiter arbiter]
    exact u.endHost_released a
  frame := by
    have ends : UnchangedExcept [.req, .arbiter] u (u.endHost a) :=
      .of_parts fun p => by cases p <;> simp [Part.Same]
    exact fun p out => (frame.trans ends) p fun mem => out (by simp at mem ⊢; tauto)

/-! ### LOOKUP (O45) -/

theorem foldl_bytesOfNat (n v k : Nat) :
    (bytesOfNat n v).foldl (fun n b => n * 256 + b.toNat) k = k * 256 ^ n + v % 256 ^ n := by
  induction n generalizing k with
  | zero => simp [bytesOfNat, Nat.mod_one]
  | succ n ih =>
    rw [bytesOfNat, List.foldl_cons, ih, Nat.mod_pow_succ, BitVec.toNat_ofNat]
    ring

theorem natOfBytes_bytesOfNat (n v : Nat) : natOfBytes (bytesOfNat n v) = v % 256 ^ n := by
  rw [natOfBytes, foldl_bytesOfNat, Nat.zero_mul, Nat.zero_add]

theorem length_bytesOfNat (n v : Nat) : (bytesOfNat n v).length = n := by
  induction n with
  | zero => rfl
  | succ n ih => rw [bytesOfNat, List.length_cons, ih]

theorem parseLookup_bytes (a : Address) : parseLookup (bytesOfNat 6 a.toNat) = some (.lookup a) := by
  have length := length_bytesOfNat 6 a.toNat
  have value : fieldAt (bytesOfNat 6 a.toNat) 0 6 = a.toNat := by
    rw [fieldAt, List.drop_zero, List.take_of_length_le (Nat.le_of_eq length), natOfBytes_bytesOfNat]
    exact Nat.mod_eq_of_lt a.isLt
  rw [parseLookup, length, value, BitVec.ofNat_toNat, BitVec.setWidth_eq]
  rfl

theorem parseLookup_of_length {body : List Byte} (other : body.length ≠ 6) : parseLookup body = none := by
  simp [parseLookup, other]

/-- A transaction that ends is judged in the state its fall leaves, where the port stands as it stood
(R177). -/
theorem State.spi_of_ends {s : State} {span : SpiSpan} {p : PortStatus} (ends : EndsLatched s span p)
    (f : PortStatus → State → State) :
    ∃ q, s.spi span f = f p { s with req := q } ∧ q.port = s.req.port := by
  rcases ends with ⟨rfl, latched⟩ | ⟨rfl, seen, high, rfl⟩
  · exact ⟨s.req, by simp [State.spi, latched], rfl⟩
  · exact ⟨{ s.req with csn := some s.req.port.status },
      by simp [State.spi, RequestPort.fall, seen, high], rfl⟩

/-- A request frame submitted to an IDLE port, IDLE when CSn rises too, is taken (R177, R178). -/
theorem execSubmit_of_ends {s : State} {span : SpiSpan} (free : s.inReset = false)
    (ends : EndsLatched s span .idle) (idle : s.req.port = .idle) (bytes : List Byte) (k : Nat) :
    ∃ q, exec (.submit span bytes k) s = .next (State.takeFrame { s with req := q } bytes) := by
  rw [exec, execSubmit, State.unlessReset_free free]
  obtain ⟨q, judged, port⟩ := State.spi_of_ends ends _
  rw [judged]
  simp only [port, idle]
  exact ⟨_, rfl⟩

theorem frameMalformed_sound {code len : Byte} {body : List Byte} (short : len.toNat ≤ 160)
    (length : body.length = len.toNat) :
    frameMalformed code len (body ++ [crc8 (code :: len :: body)]) = false := by
  simp [frameMalformed, Config.bodyMax, length, short]

/-- A sound frame whose body is refused is answered BAD_FIELD (R178, R186). -/
theorem State.takeFrame_badField {s : State} {bytes body : List Byte} {code : Byte}
    (sound : SoundFrame bytes code body) (refused : parseRequest s.settings code.toNat body = some none) :
    s.takeFrame bytes = s.hostAnswer .badField := by
  obtain ⟨len, short, length, rfl⟩ := sound
  simp only [State.takeFrame, frameMalformed_sound short length, List.dropLast_concat, refused]
  rfl

/-- Settles O45: six bytes spell back the address, and the answer reads the index only. -/
theorem lookup : Obligations.Lookup := by
  refine ⟨fun settings body other => ?_, fun settings a => ?_, fun s span bytes body k free ends port sound
    other => ?_, fun a => rfl, fun s a ready => ⟨_, State.inHostTransaction_ready ready _, fun h found => ?_,
    fun unknown => ?_⟩⟩
  · exact congrArg some (parseLookup_of_length other)
  · exact congrArg some (parseLookup_bytes a)
  · obtain ⟨q, ran⟩ := execSubmit_of_ends free ends port bytes k
    have refused : parseRequest s.settings (0x05 : Byte).toNat body = some none :=
      congrArg some (parseLookup_of_length other)
    refine ⟨_, ran, ?_⟩
    rw [State.takeFrame_badField (s := { s with req := q }) sound refused]
    exact ⟨rfl, .of_parts fun p => by cases p <;> simp [Part.Same]⟩
  · simp only [State.lookedUp, found]
    exact .of_frame (.refl _ s) _
  · simp only [State.lookedUp, unknown]
    exact .of_frame (.refl _ s) _

/-! ### LIST and READ_TICKETS (O46) -/

/-- Settles O46: both answers are read off a state that stays. -/
theorem listAndReadTickets : Obligations.ListAndReadTickets := by
  refine ⟨fun s c start count ready => ?_, fun s ready => ?_⟩
  · refine ⟨_, ((s.lists.get c).drop start).take count, State.inHostTransaction_ready ready _,
      .of_frame (.refl _ s) _, by simp, fun k short => ?_⟩
    rw [List.length_take] at short
    rw [List.getElem?_take_of_lt (by omega), List.getElem?_drop]
  · refine ⟨_, State.inHostTransaction_ready ready _, ?_⟩
    have views : s.tickets.toList.map Ticket.view = (List.range 24).map fun n => ⟨(s.ticket n).seq,
        (s.ticket n).issue.map fun i => ⟨i.holder, i.limit, i.left.toNat⟩⟩ := by
      rw [s.tickets_toList, List.map_map]
      rfl
    rw [← views]
    exact .of_frame (.refl _ s) _

/-! ### READ_RECORD (O47) -/

theorem successorIn_of_notMem {l : List Nat} {h : Nat} (out : h ∉ l) : successorIn l h = none := by
  fun_induction successorIn l h <;> simp_all

theorem successorIn_cons_of_ne {l : List Nat} {h x : Nat} (other : x ≠ h) :
    successorIn (x :: l) h = successorIn l h := by
  cases l <;> simp [successorIn, other]

theorem successorIn_append {front : List Nat} {h : Nat} (first : h ∉ front) (l : List Nat) :
    successorIn (front ++ l) h = successorIn l h := by
  induction front with
  | nil => rfl
  | cons x front ih =>
    rw [List.mem_cons, not_or] at first
    rw [List.cons_append, successorIn_cons_of_ne (Ne.symm first.1), ih first.2]

theorem successorIn_inner {front back : List Nat} {h x : Nat} (first : h ∉ front) :
    successorIn (front ++ h :: x :: back) h = some x := by
  rw [successorIn_append first, successorIn, if_pos rfl]

theorem successorIn_tail {front : List Nat} {h : Nat} (first : h ∉ front) :
    successorIn (front ++ [h]) h = some h := by
  rw [successorIn_append first, successorIn, if_pos rfl]

/-- What a READ_RECORD leaves changes the watermarks only (R24). -/
theorem State.readOut_frame (s : State) (h : Nat) (clear : Bool) :
    UnchangedExcept [.records] s (s.readOut h clear).1 := by
  rw [State.readOut]
  split
  · exact .refl _ s
  · split
    · exact .of_parts fun p => by cases p <;> simp [Part.Same]
    · exact .refl _ s

theorem State.readOut_record {s : State} {h : Nat} {r : Record} (own : s.record h = some r) (clear : Bool) :
    OneRecord s (s.readOut h clear).1 h
      (some (if clear then { r with lowest := r.balance, highest := r.backlog } else r)) := by
  simp only [State.readOut, own]
  cases clear
  · exact ⟨own, fun _ _ => rfl⟩
  · exact .putRecord own _

theorem State.image_eq {s : State} {r : Record} {k : Nat} {e : TierEntry}
    (tier : s.settings.tierOf r.rate = some (k, e)) (h : Nat) :
    s.image h r = ⟨h, r, k, decide (h ∈ s.lists.get r.cls), successorIn (s.lists.get r.cls) h⟩ := by
  have listed : s.isListed h r.cls = decide (h ∈ s.lists.get r.cls) := by
    rw [Bool.eq_iff_iff, State.isListed_iff, decide_eq_true_iff]
  simp only [State.image, tier, listed]

/-- Settles O47: the image is of the record before its watermarks are cleared. -/
theorem readRecord : Obligations.ReadRecord := by
  intro s h clear ready
  refine ⟨fun free => ⟨_, State.inHostTransaction_ready ready _, ?_⟩, fun r k e own tier =>
    ⟨_, successorIn (s.lists.get r.cls) h, State.inHostTransaction_ready ready _, ?_, ?_,
      successorIn_of_notMem, fun front x back first same => same ▸ successorIn_inner first,
      fun front first same => same ▸ successorIn_tail first⟩⟩
  · have answer : s.readOut h clear = (s, .free h) := by rw [State.readOut, free]
    simp only [Option.getD_some, answer]
    exact .of_frame (.refl _ s) _
  · have answer : (s.readOut h clear).2 = .record (s.image h r) := by rw [State.readOut, own]
    rw [← State.image_eq tier, ← answer]
    exact .of_frame (s.readOut_frame h clear) _
  · exact (State.readOut_record own clear).of_records (State.endHost_records _ _)

end Sys2Proof.Machine
end

section
/-! PROOF. What a step does with no command waiting (O2). -/

namespace Sys2Proof.Machine

/-! ### One µs -/

theorem State.passTime_timePassed (s : State) (n : Nat) : TimePassed n s (s.passTime n) where
  us := by rw [State.passTime_time, BitVec.toNat_add, BitVec.toNat_ofNat, Nat.add_mod_mod]
  ms := by rw [State.passTime_time, BitVec.toNat_add, BitVec.toNat_ofNat, Nat.add_mod_mod]
  frac := rfl
  gov := rfl
  sweeper := rfl
  notices := rfl
  tickets := s.ticket_passTime n
  frame := .of_parts fun p => by cases p <;> simp [Part.Same]

theorem step_of_none {s : State} (empty : s.pending = []) (none : s.ownStep = none) :
    step s = .next s.idle := by
  rw [step, empty]
  simp only [none]

theorem step_of_some {s : State} {c : Instr} (empty : s.pending = []) (own : s.ownStep = some c) :
    step s = exec c s := by
  rw [step, empty]
  simp only [own]

/-! ### The part's own next step -/

theorem State.ownStep_in_reset {s : State} (reset : s.inReset = true) : s.ownStep = none := by
  rw [State.ownStep, if_pos reset]

theorem State.ownStep_direct {s : State} {r : Request} (working : s.HostWorking r)
    (tableless : r.usesTable = false) : s.ownStep = some r.command := by
  simp [State.ownStep, working.free, State.directStep, working.port, tableless]

/-- With no request in execution that takes no transaction: the timers, then the clients that come to ask,
then the transaction that holds the table. -/
theorem State.ownStep_of_tabled {s : State} (free : s.inReset = false)
    (tabled : ∀ r, s.req.port = .working r → r.usesTable = true) :
    s.ownStep = (s.timerStep <|> s.arbiter.lastServed.after.findSome? s.askStep <|> s.transactionStep) := by
  have direct : s.directStep = none := by
    rw [State.directStep]
    split
    · rename_i r port
      rw [if_pos (tabled r port)]
    · rfl
  rw [State.ownStep, free, direct]
  rfl

/-- Some ticket's deadline is reached (R130). -/
def State.SomeDue (s : State) : Prop := ∃ n i, (s.ticket n).issue = some i ∧ i.left ≤ 0

theorem State.anyDue_iff (s : State) : s.anyDue = true ↔ s.SomeDue := by
  have due_iff : ∀ t : Ticket, t.due = true ↔ ∃ i, t.issue = some i ∧ i.left ≤ 0 := fun t => by
    cases issue : t.issue <;> simp [Ticket.due, issue]
  simp only [State.anyDue, s.tickets_toList, List.any_map, List.any_eq_true, Function.comp, due_iff,
    List.mem_range]
  exact ⟨fun ⟨n, _, i, issued, left⟩ => ⟨n, i, issued, left⟩,
    fun ⟨n, i, issued, left⟩ => ⟨n, State.lt_of_issue issued, i, issued, left⟩⟩

/-- A client comes to ask for the table now (R130, R163, R64). -/
def State.Comes (s : State) (c : Client) : Prop :=
  (c = .mediumEngine ∧ s.medium.work = none ∧ s.medium.answers.length < 16 ∧ s.medium.inbound ≠ []) ∨
  (c = .ticketTimer ∧ s.timerAsked = false ∧ s.SomeDue) ∨
  (c = .sweeper ∧ s.sweeper.periodLeft = 0)

/-- The command by which a client comes to ask. -/
def Client.comingCommand : Client → Instr
  | .mediumEngine => .messageTake
  | .ticketTimer => .ticketDue
  | .requestEngine | .sweeper => .periodTimerExpiry

theorem State.askStep_of_comes {s : State} {c : Client} (comes : s.Comes c) :
    s.askStep c = some c.comingCommand := by
  rcases comes with ⟨rfl, idle, room, waits⟩ | ⟨rfl, unasked, due⟩ | ⟨rfl, expired⟩
  · simp [State.askStep, State.canTake, idle, Config.mediumDepth, room, waits, Client.comingCommand]
  · simp [State.askStep, s.anyDue_iff.2 due, unasked, Client.comingCommand]
  · simp [State.askStep, expired, Client.comingCommand]

theorem State.askStep_of_not_comes {s : State} {c : Client} (stays : ¬ s.Comes c) : s.askStep c = none := by
  cases c with
  | mediumEngine =>
    refine if_neg fun can => stays (.inl ?_)
    simpa [State.canTake, Config.mediumDepth, and_assoc] using can
  | requestEngine => rfl
  | ticketTimer =>
    refine if_neg fun asks => stays (.inr (.inl ?_))
    simpa [s.anyDue_iff, and_comm] using asks
  | sweeper => exact if_neg fun expired => stays (.inr (.inr ⟨rfl, expired⟩))

/-- Of the clients that come to ask together, the rotation's first (R19). -/
theorem State.findSome?_askStep {s : State} {order front back : List Client} {c : Client}
    (rotation : order = front ++ c :: back) (comes : s.Comes c) (first : ∀ d ∈ front, ¬ s.Comes d) :
    order.findSome? s.askStep = some c.comingCommand := by
  have before : front.findSome? s.askStep = none :=
    List.findSome?_eq_none_iff.2 fun d mem => State.askStep_of_not_comes (first d mem)
  rw [rotation, List.findSome?_append, before, List.findSome?_cons, State.askStep_of_comes comes]
  rfl

theorem State.findSome?_askStep_none {s : State} (stay : ∀ c, ¬ s.Comes c) (order : List Client) :
    order.findSome? s.askStep = none :=
  List.findSome?_eq_none_iff.2 fun d _ => State.askStep_of_not_comes (stay d)

/-- Settles O2: the alternatives of the next step, each where those before it are none. -/
theorem stepOnEmptyQueue : Obligations.StepOnEmptyQueue := by
  refine ⟨fun s empty => ⟨fun reset => ?_, fun c => step_of_some empty, fun free none => ?_⟩, rfl, rfl, rfl,
    rfl, fun s => State.ownStep_in_reset, fun s r => State.ownStep_direct, fun s free tabled => ?_⟩
  · rw [step_of_none empty (State.ownStep_in_reset reset), State.idle, if_pos reset]
  · refine ⟨_, step_of_none empty none, ?_⟩
    rw [State.idle, free]
    exact s.passTime_timePassed 1
  · intro due comes
    have own := State.ownStep_of_tabled free tabled
    refine ⟨fun ended => ?_, fun runs now => ?_, fun runs later => ?_⟩
    · rw [own, State.timerStep, if_pos ended]
      rfl
    · rw [own, State.timerStep, if_neg runs, if_pos now]
      rfl
    · have timers : s.timerStep = none := by rw [State.timerStep, if_neg runs, if_neg later]
      rw [timers] at own
      refine ⟨fun front c back rotation coming first => ?_, fun stay => ?_⟩
      · rw [own, State.findSome?_askStep rotation coming first]
        cases c <;> rfl
      · rw [State.findSome?_askStep_none stay] at own
        replace own : s.ownStep = s.transactionStep := own
        rw [own]
        refine ⟨fun holder => ?_, fun m holder held => ?_, fun r holder port => ?_, fun holder asked => ?_,
          fun holder pass => ?_⟩
        · rw [State.transactionStep, holder]
        · rw [State.transactionStep, holder, held, Option.bind_some]
        · rw [State.transactionStep, holder, port]
          exact if_pos (tabled r port)
        · rw [State.transactionStep, holder]
          exact if_pos asked
        · rw [State.transactionStep, holder]
          exact if_pos (Option.isSome_iff_ne_none.2 pass)

end Sys2Proof.Machine
end

section
/-! PROOF. COMPLETE answered DONE, and the lifecycle of a record: ADMIT, AMEND, RETIRE and SET_CLASS (O24,
O42, O43, O44, O48). -/

namespace Sys2Proof.Machine

/-! ### Judgements and ends of transactions across states that agree -/

theorem Judged.of_lists {s t u : State} {c : Cls} {h : Nat} {eligible : Bool}
    (judged : Judged s t c h eligible) (lists : u.lists = t.lists) (skip : u.skip = t.skip) :
    Judged s u c h eligible :=
  ⟨(congrArg (·.get c) lists).trans judged.own,
    fun d hd => (congrArg (·.get d) lists).trans (judged.others d hd), skip.trans judged.skip⟩

theorem Judged.from_lists {s t u : State} {c : Cls} {h : Nat} {eligible : Bool}
    (judged : Judged t u c h eligible) (lists : t.lists = s.lists) (skip : t.skip = s.skip) :
    Judged s u c h eligible := by
  have same : judgedSkip t c h eligible = judgedSkip s c h eligible := by simp only [judgedSkip, lists, skip]
  exact ⟨lists ▸ judged.own, fun d hd => lists ▸ judged.others d hd, judged.skip.trans same⟩

theorem OneTicket.of_tickets {s t u : State} {n : Nat} {x : Ticket} (one : OneTicket s t n x)
    (same : u.tickets = t.tickets) : OneTicket s u n x :=
  ⟨(State.ticket_congr same n).trans one.own,
    fun k hk => (State.ticket_congr same k).trans (one.others k hk)⟩

/-- A message whose work changes no more than these parts ends its transaction with its answer (R168). -/
theorem EndsMedium.of_frame {s u : State} {parts : List Part} (frame : UnchangedExcept parts s u)
    (tag : BitVec 4) (a : MediumAnswer) (medium : Part.medium ∉ parts := by decide)
    (arbiter : Part.arbiter ∉ parts := by decide) : EndsMedium s (u.endMedium tag a) tag a parts where
  answered := by
    rw [MediumAnswered, ← frame.medium medium]
    exact u.endMedium_medium tag a
  released := by
    rw [TableReleased, ← frame.arbiter arbiter]
    exact u.endMedium_released tag a
  frame := by
    have ends : UnchangedExcept [.medium, .arbiter] u (u.endMedium tag a) :=
      .of_parts fun p => by cases p <;> simp [Part.Same]
    exact fun p out => (frame.trans ends) p fun mem => out (by simp at mem ⊢; tauto)

/-! ### COMPLETE (O24) -/

theorem State.record_returnTicket (s : State) (n k : Nat) : (s.returnTicket n).record k = s.record k :=
  State.record_congr (s.returnTicket_records n) k

/-- The effects of a COMPLETE answered DONE up to the judgement of eligibility (R126, R127); only the end of a
drain (R128) is still to come. -/
def State.reported (s : State) (c : Completion) (h : Nat) : State :=
  (((s.returnTicket c.ticket).charge h c.used).updateRecord h (·.afterCompletion c)).judge h

theorem State.acceptCompletion_eq (s : State) (c : Completion) (h : Nat) :
    s.acceptCompletion c h = (s.reported c h).endDrain h := rfl

theorem State.reported_frame (s : State) (c : Completion) (h : Nat) :
    UnchangedExcept [.records, .lists, .skip, .tickets, .pool, .gov] s (s.reported c h) :=
  .of_parts fun p => by cases p <;> simp [Part.Same, State.reported]

theorem State.acceptCompletion_frame (s : State) (c : Completion) (h : Nat) :
    UnchangedExcept [.records, .lists, .skip, .tickets, .pool, .gov, .notices] s (s.acceptCompletion c h) :=
  .of_parts fun p => by cases p <;> simp [Part.Same, State.acceptCompletion]

theorem State.reported_ticket {s : State} {c : Completion} {i : Issue}
    (issued : s.ticket c.ticket = ⟨c.seq, some i⟩) (h : Nat) :
    OneTicket s (s.reported c h) c.ticket ⟨c.seq, none⟩ := by
  have lt : c.ticket < 24 := State.lt_of_issue (congrArg Ticket.issue issued)
  have same : ∀ k, (s.reported c h).ticket k = (s.returnTicket c.ticket).ticket k :=
    State.ticket_congr (by simp [State.reported])
  refine ⟨?_, fun k hk => ?_⟩
  · rw [same, State.ticket_returnTicket, if_pos ⟨rfl, lt⟩, issued]
  · rw [same, State.ticket_returnTicket, if_neg fun e => hk e.1.symm]

theorem State.reported_pool (s : State) (c : Completion) (h : Nat) :
    (s.reported c h).pool = s.pool ++ [c.ticket] := by
  simp [State.reported]

section
variable {s : State} {h : Nat} {r : Record} (own : s.record h = some r) (c : Completion)
include own

theorem OneRecord.report : OneRecord s (s.reported c h) h (some ((r.charge c.used).afterCompletion c)) := by
  have returned := (s.record_returnTicket c.ticket h).trans own
  have charged := OneRecord.charge returned c.used
  exact (charged.trans (.heard charged.own (·.afterCompletion c))).from_records
    (s.returnTicket_records c.ticket)

theorem State.reported_judged :
    Judged s (s.reported c h) r.cls h ((r.charge c.used).afterCompletion c).eligible := by
  have returned := (s.record_returnTicket c.ticket h).trans own
  have updated := OneRecord.updateRecord (OneRecord.charge returned c.used).own (·.afterCompletion c)
  exact (State.judge_judged updated.own).from_lists (by simp) (by simp)

theorem State.reported_usage : UsageCounted s (s.reported c h) c.used r.cls := by
  have returned := (s.record_returnTicket c.ticket h).trans own
  obtain ⟨-, -, counted⟩ := State.charge_some returned c.used
  simp [UsageCounted, State.reported, counted, Governor.count]

end

theorem Record.living_of_retiring {r : Record} {cause : DrainCause} (state : r.state = .retiring cause) :
    r.living = false := by
  simp [Record.living, state]

theorem Record.state_of_living {r : Record} (living : r.living = true) (cause : DrainCause) :
    r.state ≠ .retiring cause := fun state => by
  rw [Record.living_of_retiring state] at living
  cases living

/-- A record that lives, or still holds a ticket, ends no drain (R47). -/
theorem State.endDrain_stays {s : State} {h : Nat} {r : Record} (own : s.record h = some r)
    (stays : r.living = true ∨ 0 < r.held) : s.endDrain h = s := by
  simp only [State.endDrain, own]
  split
  · rename_i cause state
    exact if_neg (Nat.ne_of_gt (stays.resolve_left fun living => Record.state_of_living living cause state))
  · rfl

theorem State.endDrain_ends {s : State} {h : Nat} {r : Record} {cause : DrainCause}
    (own : s.record h = some r) (state : r.state = .retiring cause) (empty : r.held = 0) :
    s.endDrain h =
      (s.putRecord h none).notify (.retired h r.address r.label r.consumed cause.noticeCause) := by
  simp [State.endDrain, own, state, empty]

/-- A COMPLETE of the ticket's sequence is answered DONE (R124, R126). -/
theorem execComplete_done {s : State} {tag : BitVec 4} {c : Completion} {i : Issue}
    (ready : s.MediumReady tag (.complete c)) (issued : s.ticket c.ticket = ⟨c.seq, some i⟩) :
    exec .complete s =
      .next (((s.reported c i.holder).endDrain i.holder).endMedium tag (.done (some i.holder))) := by
  have ran : exec .complete s = .next ((s.completed c).1.endMedium tag (s.completed c).2) :=
    State.inMediumTransaction_ready ready _
  rw [ran, State.completed]
  simp only [issued, if_true, State.acceptCompletion_eq]

/-- Settles O24: the report leaves the holder either as it stands or RETIRING with no ticket, and only then
the end of the drain does something. -/
theorem completeDone : Obligations.CompleteDone := by
  refine ⟨fun s tag c i r ready issued own stays => ⟨_, execComplete_done ready issued, ?_⟩,
    fun s tag c i r cause ready issued own state last => ⟨_, execComplete_done ready issued, ?_⟩⟩
  · have one := OneRecord.report own c
    have kept : (s.reported c i.holder).endDrain i.holder = s.reported c i.holder :=
      State.endDrain_stays one.own (stays.imp id fun two => Nat.sub_pos_of_lt two)
    rw [kept]
    exact ⟨.of_frame (s.reported_frame c i.holder) _ _,
      (State.reported_ticket issued i.holder).of_tickets (by simp),
      (State.endMedium_pool _ _ _).trans (s.reported_pool c i.holder), one.of_records (by simp),
      (State.reported_judged own c).of_lists (by simp) (by simp),
      (State.endMedium_gov _ _ _).trans (State.reported_usage own c)⟩
  · have one := OneRecord.report own c
    have retiring : ((r.charge c.used).afterCompletion c).state = .retiring cause := state
    have drained := State.endDrain_ends one.own retiring (Nat.sub_eq_zero_of_le last.le)
    have judged := State.reported_judged own c
    rw [Record.eligible_of_dead (Record.living_of_retiring retiring)] at judged
    refine ⟨.of_frame (s.acceptCompletion_frame c i.holder) _ _,
      (State.reported_ticket issued i.holder).of_tickets (by simp), ?_, ?_,
      judged.of_lists (by simp) (by simp), ?_, ?_⟩
    · simpa using s.reported_pool c i.holder
    · rw [drained]
      exact (one.trans (.putRecord one.own none)).of_records (by simp)
    · simpa [UsageCounted] using State.reported_usage own c
    · have reported := s.reported_frame c i.holder
      rw [drained, NoticesMade, State.endMedium_notices, State.notify_notices, State.putRecord_notices,
        State.putRecord_settings, State.putRecord_time, reported.notices, reported.settings, reported.time]
      cases cause <;> rfl

/-! ### ADMIT (O42) -/

/-- The lowest FREE handle is the only one that is FREE with none FREE below it (R1). -/
theorem State.lowestFree_eq_some {s : State} {h : Nat} (lt : h < 640) (free : s.record h = none)
    (below : ∀ k < h, s.record k ≠ none) : s.lowestFree = some h := by
  rw [State.lowestFree, State.records_toList, List.findIdx?_eq_some_iff_getElem]
  refine ⟨by simpa using lt, by simp [free], fun k hk => ?_⟩
  simpa [Option.isSome_iff_ne_none] using below k hk

theorem State.lowestFree_eq_none {s : State} (taken : ∀ h < 640, s.record h ≠ none) :
    s.lowestFree = none := by
  rw [State.lowestFree, State.records_toList, List.findIdx?_eq_none_iff]
  simpa [Option.isSome_iff_ne_none] using taken

theorem Admission.newRecord_fresh (a : Admission) (c : ClassSettings) : (a.newRecord c).FreshFor a c where
  state := rfl
  identity := ⟨rfl, rfl, rfl, rfl⟩
  overrides := ⟨rfl, rfl⟩
  presence := ⟨rfl, rfl, rfl⟩
  linger := rfl
  account := ⟨rfl, rfl, rfl⟩
  counts := ⟨rfl, rfl, rfl, rfl⟩

section
variable {s : State} {a : Admission}

theorem State.admitTo_known {h : Nat} (known : s.indexLookup a.address = some h) :
    s.admitTo a = (s, .duplicate h) := by
  simp only [State.admitTo, known]

theorem State.admitTo_full (stranger : s.indexLookup a.address = none)
    (full : (s.classSettings a.cls).capacity ≤ s.occupancy a.cls) : s.admitTo a = (s, .classFull) := by
  simp only [State.admitTo, stranger, if_pos full]

theorem State.admitTo_noHandle (stranger : s.indexLookup a.address = none)
    (room : s.occupancy a.cls < (s.classSettings a.cls).capacity) (taken : s.lowestFree = none) :
    s.admitTo a = (s, .tableFull) := by
  simp only [State.admitTo, stranger, if_neg (Nat.not_le.2 room), taken]

theorem State.admitTo_free {h : Nat} (stranger : s.indexLookup a.address = none)
    (room : s.occupancy a.cls < (s.classSettings a.cls).capacity) (free : s.lowestFree = some h) :
    s.admitTo a = (s.admitAt a h, .admitted h) := by
  simp only [State.admitTo, stranger, if_neg (Nat.not_le.2 room), free]
  rfl

theorem execAdmit_ready (ready : s.HostReady (.admitStation a)) :
    exec .admitStation s = .next ((s.admitTo a).1.endHost (s.admitTo a).2) :=
  State.inHostTransaction_ready ready _

theorem OneRecord.admitAt {h : Nat} (free : s.lowestFree = some h) :
    OneRecord s (s.admitAt a h) h (some (a.newRecord (s.classSettings a.cls))) :=
  ⟨by rw [State.record_admitAt free, if_pos rfl], fun k hk => by
    rw [State.record_admitAt free, if_neg (Ne.symm hk)]⟩

end

/-- Settles O42: by the checks of Table 2-2 in their order; only the last of them changes anything. -/
theorem admitStation : Obligations.Admit := by
  refine ⟨fun s a h ready stranger room lt free below => ?_, fun s a ready =>
    ⟨fun h known => ?_, fun stranger full => ?_, fun stranger room taken => ?_⟩⟩
  · have lowest := State.lowestFree_eq_some lt free below
    have one := (OneRecord.admitAt (a := a) lowest).of_records
      ((s.admitAt a h).endHost_records (.admitted h))
    rw [execAdmit_ready ready, State.admitTo_free stranger room lowest]
    refine ⟨_, _, rfl, .of_frame (s.admitAt_frame a h) _, one, a.newRecord_fresh _,
      State.endHost_strangers _ _, ?_, fun c other => ?_⟩
    · simp [one.occupancy lt, free, inClass, Admission.newRecord]
    · simp [one.occupancy lt, free, inClass, Admission.newRecord, Ne.symm other]
  · rw [execAdmit_ready ready, State.admitTo_known known]
    exact ⟨_, rfl, .of_frame (.refl _ s) _⟩
  · rw [execAdmit_ready ready, State.admitTo_full stranger full]
    exact ⟨_, rfl, .of_frame (.refl _ s) _⟩
  · rw [execAdmit_ready ready, State.admitTo_noHandle stranger room (State.lowestFree_eq_none taken)]
    exact ⟨_, rfl, .of_frame (.refl _ s) _⟩

/-! ### AMEND (O43) -/

/-- The barred item on a living record (R42). -/
theorem RecordState.amendBarredBy_eq {st : RecordState} (living : ∀ cause, st ≠ .retiring cause)
    (barred : Option Bool) (p : PsMark) :
    st.amendBarredBy barred p =
      if barred = some true then .barred
      else if barred = some false ∧ st = .barred then (if p = .awake then .active else .dozing)
      else st := by
  rcases barred with _ | _ | _
  · rfl
  · cases st <;> cases p <;> rfl
  · cases st with
    | retiring cause => exact absurd rfl (living cause)
    | _ => rfl

/-- The items of an AMEND other than the class item, on a living record in a class of these settings (R41 to
R43). -/
theorem Record.amendItems_eq {r : Record} (living : r.living = true) (c : ClassSettings) (a : Amendment) :
    (r.amendBalance c a.toInitial).amendFields a = { r with
      balance := if a.toInitial then c.initialBalance else r.balance
      lowest := if a.toInitial then min r.lowest c.initialBalance else r.lowest
      weight := a.weight.getD r.weight
      label := a.label.getD r.label
      lingerOverride := a.lingerOverride.getD r.lingerOverride
      burstOverride := a.burstOverride.getD r.burstOverride
      state :=
        if a.barred = some true then .barred
        else if a.barred = some false ∧ r.state = .barred then
          (if r.psMark = .awake then .active else .dozing)
        else r.state } := by
  rw [← RecordState.amendBarredBy_eq (Record.state_of_living living)]
  cases toInitial : a.toInitial <;> rfl

theorem Record.clip_eq (r : Record) (cap : Nat) : r.clip cap = { r with
    balance := min r.balance cap
    lowest := if (cap : Int) < r.balance then min r.lowest cap else r.lowest } := by
  rw [Record.clip]
  split
  · rename_i above
    rw [Int.min_eq_right above.le]
    rfl
  · rename_i within
    rw [Int.min_eq_left (Int.not_lt.1 within)]

theorem judgedList_of_notMem {l : List Nat} {h : Nat} (out : h ∉ l) (eligible : Bool) :
    judgedList l h eligible = if eligible then l ++ [h] else l := by
  simp [judgedList, out, List.erase_of_not_mem out]

section
variable {s : State} {h : Nat} {a : Amendment}

theorem execAmend_ready (ready : s.HostReady (.amend h a)) :
    exec .amend s = .next ((s.amended h a).1.endHost (s.amended h a).2) :=
  State.inHostTransaction_ready ready _

theorem State.amended_notLive (dead : s.record h = none ∨ ∃ r, s.record h = some r ∧ r.living = false) :
    s.amended h a = (s, .notLive) := by
  rcases dead with free | ⟨r, own, dead⟩
  · simp only [State.amended, free]
  · simp [State.amended, own, dead]

variable {r : Record} (own : s.record h = some r)
include own

theorem State.amended_full (living : r.living = true) (full : s.classItemFull r a.cls = true) :
    s.amended h a = (s, .classFull) := by
  simp [State.amended, own, living, full]

theorem State.amended_applied (living : r.living = true) (room : s.classItemFull r a.cls = false) :
    s.amended h a = (s.applyAmendment h a, .done) := by
  simp [State.amended, own, living, room]

/-- The one judgement of an AMEND comes after its class item (R39). -/
theorem State.applyAmendment_judged :
    Judged (s.changeClassBy h a.cls) (s.applyAmendment h a) (a.cls.getD r.cls) h
      (r.amended s.settings a).eligible := by
  have moved := OneRecord.changeClassBy own a.cls
  have updated := OneRecord.updateRecord moved.own fun r =>
    (r.amendBalance (s.classSettings r.cls) a.toInitial).amendFields a
  rw [← Record.amended_cls r s.settings a]
  exact (State.judge_judged updated.own).from_lists (State.updateRecord_lists _ _ _)
    (State.updateRecord_skip _ _ _)

theorem State.changeClassBy_stays (stays : a.cls = none ∨ a.cls = some r.cls) :
    s.changeClassBy h a.cls = s := by
  rcases stays with none | same
  · rw [none, State.changeClassBy]
  · simp [same, State.changeClassBy, State.changeClass, own]

/-- A class item naming another class takes the record out of its list (R40). -/
theorem State.changeClassBy_judged {c : Cls} (item : a.cls = some c) (moves : c ≠ r.cls) :
    Judged s (s.changeClassBy h a.cls) r.cls h false := by
  rw [item]
  exact (s.unlist_judged r.cls h).of_lists (by simp [State.changeClassBy, State.changeClass, own, moves])
    (by simp [State.changeClassBy, State.changeClass, own, moves])

end

section
variable {r : Record} {a : Amendment}

theorem Amendment.getD_cls (stays : a.cls = none ∨ a.cls = some r.cls) : a.cls.getD r.cls = r.cls := by
  rcases stays with item | item <;> rw [item] <;> rfl

theorem State.classItemFull_stays {s : State} (stays : a.cls = none ∨ a.cls = some r.cls) :
    s.classItemFull r a.cls = false := by
  rcases stays with item | item
  · rw [item, State.classItemFull]
  · exact item ▸ State.classItemFull_eq_false.2 (.inl rfl)

theorem Record.amended_stays (stays : a.cls = none ∨ a.cls = some r.cls) (g : Settings) :
    r.amended g a = (r.amendBalance (g.classes.get r.cls) a.toInitial).amendFields a := by
  have same : r.inClass g a.cls = r := by
    rcases stays with item | item
    · rw [item, Record.inClass]
    · rw [item, Record.inClass, if_pos rfl]
  rw [Record.amended, same]

theorem Record.amended_moves {c : Cls} (item : a.cls = some c) (moves : c ≠ r.cls) (g : Settings) :
    r.amended g a = (({ r with cls := c }.clip (g.classes.get c).balanceCap).amendBalance
      (g.classes.get c) a.toInitial).amendFields a := by
  rw [Record.amended, item, Record.inClass, if_neg moves, (Record.clip_station { r with cls := c } _).2.1]

end

/-- The lists and the background-skip counter after a record has moved to a class whose list does not hold it:
joining that list, or staying out of it, leaves the counter as the removal set it (R40, R102). -/
theorem State.applyAmendment_moves {s : State} {h : Nat} {a : Amendment} {r : Record} {c : Cls}
    (own : s.record h = some r) (item : a.cls = some c) (moves : c ≠ r.cls) (out : h ∉ s.lists.get c) :
    (s.applyAmendment h a).lists.get r.cls = (s.lists.get r.cls).erase h ∧
    (s.applyAmendment h a).lists.get c =
      (if (r.amended s.settings a).eligible then s.lists.get c ++ [h] else s.lists.get c) ∧
    (∀ d, d ≠ c → d ≠ r.cls → (s.applyAmendment h a).lists.get d = s.lists.get d) ∧
    (s.applyAmendment h a).skip = judgedSkip s r.cls h false := by
  have left := State.changeClassBy_judged own item moves
  have joined := State.applyAmendment_judged (a := a) own
  rw [show a.cls.getD r.cls = c by rw [item, Option.getD_some]] at joined
  have same : (s.changeClassBy h a.cls).lists.get c = s.lists.get c := left.others c moves
  refine ⟨(joined.others r.cls (Ne.symm moves)).trans left.own, ?_,
    fun d other apart => (joined.others d other).trans (left.others d apart), ?_⟩
  · rw [joined.own, same, judgedList_of_notMem out]
  · rw [joined.skip, ← left.skip]
    refine judgedSkip_kept fun background filled => ?_
    subst background
    rw [judgedList_of_notMem (by rwa [ClassMap.background_eq_get, same])]
    split
    · exact List.concat_ne_nil h _
    · exact filled

/-- Settles O43: the class item is judged as a removal from the old list, the other items at the end; a record
that keeps its class is judged where it stands, and one that moves is judged from outside its new list. -/
theorem amend : Obligations.Amend := by
  refine ⟨fun s h a ready => ⟨fun dead => ?_, fun r c own living item moves full => ?_,
    fun r own living stays => ?_⟩, fun s h a r c ready own living item moves room out => ?_⟩
  · rw [execAmend_ready ready, State.amended_notLive dead]
    exact ⟨_, rfl, .of_frame (.refl _ s) _⟩
  · have refused : s.classItemFull r a.cls = true := by simp [State.classItemFull, item, moves, full]
    rw [execAmend_ready ready, State.amended_full own living refused]
    exact ⟨_, rfl, .of_frame (.refl _ s) _⟩
  · intro initial u
    have after : r.amended s.settings a = u := by
      rw [Record.amended_stays stays]
      exact Record.amendItems_eq living _ a
    have judged := State.applyAmendment_judged (a := a) own
    have one := OneRecord.applyAmendment own a
    rw [State.changeClassBy_stays own stays, Amendment.getD_cls stays, after] at judged
    rw [after] at one
    rw [execAmend_ready ready, State.amended_applied own living (State.classItemFull_stays stays)]
    exact ⟨_, rfl, .of_frame (s.applyAmendment_frame h a) _, one.of_records (by simp),
      judged.of_lists (by simp) (by simp)⟩
  · intro cap initial low u
    have after : r.amended s.settings a = u := by
      rw [Record.amended_moves item moves, Record.clip_eq]
      exact Record.amendItems_eq (r := { r with cls := c, balance := min r.balance cap, lowest := low })
        living _ a
    obtain ⟨leaves, joins, others, skip⟩ := State.applyAmendment_moves own item moves out
    have one := OneRecord.applyAmendment own a
    rw [after] at joins one
    rw [execAmend_ready ready, State.amended_applied own living
      (item ▸ State.classItemFull_eq_false.2 (.inr room))]
    have lists := State.endHost_lists (s.applyAmendment h a) .done
    exact ⟨_, rfl, .of_frame (s.applyAmendment_frame h a) _, one.of_records (by simp),
      by rw [lists, leaves], by rw [lists, joins], fun d other apart => by rw [lists, others d other apart],
      (State.endHost_skip _ _).trans skip⟩

/-! ### RETIRE (O44) -/

theorem State.retire_frame (s : State) (h : Nat) (cause : DrainCause) :
    UnchangedExcept [.records, .lists, .skip] s (s.retire h cause) :=
  .of_parts fun p => by cases p <;> simp [Part.Same]

section
variable {s : State} {h : Nat}

theorem execRetire_ready (ready : s.HostReady (.retire h)) :
    exec .retire s = .next ((s.retired h).1.endHost (s.retired h).2) :=
  State.inHostTransaction_ready ready _

variable {r : Record} (own : s.record h = some r)
include own

theorem State.retire_judged (cause : DrainCause) : Judged s (s.retire h cause) r.cls h false :=
  (s.unlist_judged r.cls h).of_lists (by simp [State.retire, own]) (by simp [State.retire, own])

theorem State.retired_retiring (dead : r.living = false) : s.retired h = (s, .alreadyRetiring r.held) := by
  simp [State.retired, own, dead]

theorem State.retired_freed (living : r.living = true) (empty : r.held = 0) :
    s.retired h = (s.retire h .host, .freed h r.address r.label r.consumed) := by
  simp [State.retired, own, living, empty]

theorem State.retired_draining (living : r.living = true) (holds : 0 < r.held) :
    s.retired h = (s.retire h .host, .draining h r.held) := by
  simp [State.retired, own, living, Nat.ne_of_gt holds]

end

/-- Settles O44: the retirement is one work; the tickets held decide what it leaves and what is answered. -/
theorem retire : Obligations.Retire := by
  intro s h ready
  refine ⟨fun free => ?_, fun r own dead => ?_, fun r own living empty => ?_, fun r own living holds => ?_⟩
  · have refused : s.retired h = (s, .notLive) := by rw [State.retired, free]
    rw [execRetire_ready ready, refused]
    exact ⟨_, rfl, .of_frame (.refl _ s) _⟩
  · rw [execRetire_ready ready, State.retired_retiring own dead]
    exact ⟨_, rfl, .of_frame (.refl _ s) _⟩
  · have one := OneRecord.retire own .host
    rw [Record.retired, if_pos empty] at one
    rw [execRetire_ready ready, State.retired_freed own living empty]
    exact ⟨_, rfl, .of_frame (s.retire_frame h .host) _, one.of_records (State.endHost_records _ _),
      (State.retire_judged own .host).of_lists (State.endHost_lists _ _) (State.endHost_skip _ _)⟩
  · have one := OneRecord.retire own .host
    rw [Record.retired, if_neg (Nat.ne_of_gt holds)] at one
    rw [execRetire_ready ready, State.retired_draining own living holds]
    exact ⟨_, rfl, .of_frame (s.retire_frame h .host) _, one.of_records (State.endHost_records _ _),
      (State.retire_judged own .host).of_lists (State.endHost_lists _ _) (State.endHost_skip _ _)⟩

/-! ### SET_CLASS (O48) -/

/-- SET_CLASS writes the class settings and no other group (R35). -/
theorem State.settings_applyClass (s : State) (c : Cls) (i : ClassItems) :
    (s.applyClass c i).settings = { s.settings with classes := (s.applyClass c i).settings.classes } := by
  rw [State.applyClass]
  split <;> rfl

section
variable {s : State} {c : Cls} {i : ClassItems}

theorem execSetClass_ready (ready : s.HostReady (.setClass c i)) :
    exec .setClass s = .next ((s.classSet c i).1.endHost (s.classSet c i).2) :=
  State.inHostTransaction_ready ready _

theorem State.classSet_inUse {n : Nat} (item : i.capacity = some n) (below : n < s.occupancy c) :
    s.classSet c i = (s, .inUse (s.occupancy c)) := by
  simp [State.classSet, ClassItems.apply, item, below]

theorem State.classSet_applied (room : ∀ n, i.capacity = some n → s.occupancy c ≤ n) :
    s.classSet c i = (s.applyClass c i, .done) := by
  cases item : i.capacity with
  | none => simp [State.classSet, item]
  | some n => simp [State.classSet, ClassItems.apply, item, Nat.not_lt.2 (room n item)]

end

/-- Settles O48: the capacity item alone can refuse the request; the clip is that of a cap that falls. -/
theorem setClass : Obligations.SetClass := by
  refine fun s c i ready => ⟨fun n item below => ?_, fun room => ?_⟩
  · rw [execSetClass_ready ready, State.classSet_inUse item below]
    exact ⟨_, rfl, .of_frame (.refl _ s) _⟩
  · intro old cap
    rw [execSetClass_ready ready, State.classSet_applied room]
    refine ⟨_, rfl, .of_frame (s.applyClass_frame c i) _, ?_, fun d other => ?_, ?_, fun h => ?_⟩
    · rw [State.endHost_settings]
      exact s.settings_applyClass c i
    · rw [State.classSettings_congr (State.endHost_settings _ _), State.classSettings_applyClass,
        if_neg (Ne.symm other)]
    · rw [State.classSettings_congr (State.endHost_settings _ _), State.classSettings_applyClass, if_pos rfl]
      rfl
    · rw [State.record_congr (State.endHost_records _ _), State.record_applyClass]
      refine congrArg (fun f => (s.record h).map f) (funext fun r => ?_)
      change (if cap < old.balanceCap ∧ r.cls = c then r.clip cap else r) = _
      by_cases lowered : cap < old.balanceCap ∧ r.cls = c
      · simp [lowered, Record.clip, Record.setBalance]
      · rw [if_neg lowered, if_neg fun all => lowered ⟨all.2.1, all.1⟩]

end Sys2Proof.Machine
end

section
/-! PROOF. HEARD, DEMAND and the Sweeper's step: what each leaves of a station's record, its list and the
notices (O25, O26, O27, O32). -/

namespace Sys2Proof.Machine

/-! ### HEARD of a known address (O25) -/

/-- Table 3-2, its two rows that change the state written out. -/
theorem RecordState.afterHeard_eq (st : RecordState) (p : PsMark) :
    st.afterHeard p =
      if st = .active ∧ p = .asleep then .dozing
      else if st = .dozing ∧ p = .awake then .active
      else st := by
  cases st <;> cases p <;> rfl

theorem execHeard_ready {s : State} {tag : BitVec 4} {m : Hearing} (ready : s.MediumReady tag (.heard m)) :
    exec .heard s = .next ((s.hear m).1.endMedium tag (s.hear m).2) :=
  State.inMediumTransaction_ready ready _

theorem State.hear_known {s : State} {m : Hearing} {h : Nat} (known : s.indexLookup m.address = some h) :
    s.hear m =
      ((s.updateRecord h fun r => r.afterHeard (s.classSettings r.cls) m).judge h, .known h) := by
  simp only [State.hear, known]

/-- What the change of one record and the judgement of its eligibility can touch. -/
theorem State.judge_updateRecord_frame (s : State) (h : Nat) (f : Record → Record) :
    UnchangedExcept [.records, .lists, .skip] s ((s.updateRecord h f).judge h) :=
  .of_parts fun p => by cases p <;> simp [Part.Same]

/-- A record changed and then judged (R54): its list follows its new eligibility. -/
theorem State.judge_updateRecord_judged {s : State} {h : Nat} {r : Record} (own : s.record h = some r)
    (f : Record → Record) : Judged s ((s.updateRecord h f).judge h) (f r).cls h (f r).eligible :=
  (State.judge_judged (OneRecord.updateRecord own f).own).from_lists (by simp) (by simp)

/-- A transaction that changes one record, judges it and ends with its answer (R54, R168). -/
theorem State.judge_updateRecord_ends {s : State} {h : Nat} {r : Record} (own : s.record h = some r)
    (f : Record → Record) (tag : BitVec 4) (a : MediumAnswer) :
    let t := ((s.updateRecord h f).judge h).endMedium tag a
    EndsMedium s t tag a [.records, .lists, .skip] ∧ OneRecord s t h (some (f r)) ∧
      Judged s t (f r).cls h (f r).eligible :=
  ⟨.of_frame (s.judge_updateRecord_frame h f) tag a,
    (OneRecord.heard own f).of_records (State.endMedium_records _ _ _),
    (State.judge_updateRecord_judged own f).of_lists (State.endMedium_lists _ _ _)
      (State.endMedium_skip _ _ _)⟩

/-- Settles O25: the record found takes the hearing, and its new state is that of Table 3-2. -/
theorem heardKnown : Obligations.HeardKnown := by
  intro s tag m h r ready known own u
  have after : r.afterHeard (s.classSettings r.cls) m = u := by
    rw [Record.afterHeard, RecordState.afterHeard_eq, Record.reload]
  have ends := State.judge_updateRecord_ends own (fun r => r.afterHeard (s.classSettings r.cls) m) tag
    (.known h)
  simp only [after] at ends
  rw [execHeard_ready ready, State.hear_known known]
  exact ⟨_, rfl, ends⟩

/-! ### HEARD of an unknown address (O26) -/

theorem filterAppend_eq (f : List Address) (a : Address) :
    filterAppend f a = (if f.length < 8 then f else f.tail) ++ [a] := by
  rw [filterAppend, Config.filterDepth, List.drop_one]
  by_cases room : f.length < 8
  · rw [if_neg (Nat.not_le.2 room), if_pos room]
  · rw [if_pos (Nat.not_lt.1 room), if_neg room]

theorem State.hear_unknown {s : State} {m : Hearing} (unknown : s.indexLookup m.address = none) :
    s.hear m = (s.strangerHeard m, .unknown) := by
  simp only [State.hear, unknown]

section
variable {s : State} {m : Hearing}

/-- A stranger that is to be noticed (R56, R57). -/
theorem State.strangerHeard_new (switched : s.settings.presence.switchOf m.kind = true)
    (new : m.address ∉ s.strangers) :
    s.strangerHeard m = { s with strangers := filterAppend s.strangers m.address }.notify
      (.stranger m.address m.kind m.rate) := by
  simp [State.strangerHeard, switched, new]

/-- A stranger that no notice is made for (R56). -/
theorem State.strangerHeard_quiet
    (quiet : s.settings.presence.switchOf m.kind = false ∨ m.address ∈ s.strangers) :
    s.strangerHeard m = s := by
  rcases quiet with off | held
  · simp [State.strangerHeard, off]
  · simp [State.strangerHeard, held]

end

/-- Settles O26: by whether the switch of the frame kind is ON and the filter is without the address. -/
theorem heardUnknown : Obligations.HeardUnknown := by
  intro s tag m ready unknown switched
  have switch : s.settings.presence.switchOf m.kind = switched := by
    cases kind : m.kind <;> simp only [switched, kind] <;> rfl
  rw [execHeard_ready ready, State.hear_unknown unknown]
  refine ⟨fun on new => ?_, fun quiet => ?_⟩
  · rw [State.strangerHeard_new (switch.trans on) new]
    refine ⟨_, rfl, .of_frame (.of_parts fun p => by cases p <;> simp [Part.Same]) tag .unknown, ?_, ?_⟩
    · rw [State.endMedium_strangers, State.notify_strangers, filterAppend_eq]
    · rw [NoticesMade, State.endMedium_notices, State.notify_notices]
      rfl
  · rw [State.strangerHeard_quiet (switch ▸ quiet)]
    exact ⟨_, rfl, .of_frame (.refl _ s) tag .unknown⟩

/-! ### DEMAND (O27) -/

theorem execDemand_ready {s : State} {tag : BitVec 4} {h n : Nat} (ready : s.MediumReady tag (.demand h n)) :
    exec .demand s = .next ((s.demanded h n).1.endMedium tag (s.demanded h n).2) :=
  State.inMediumTransaction_ready ready _

theorem State.demanded_notLive {s : State} {h : Nat}
    (dead : s.record h = none ∨ ∃ r, s.record h = some r ∧ r.living = false) (n : Nat) :
    s.demanded h n = (s, .notLive) := by
  rcases dead with free | ⟨r, own, dead⟩
  · simp only [State.demanded, free]
  · simp [State.demanded, own, dead]

theorem State.demanded_living {s : State} {h : Nat} {r : Record} (own : s.record h = some r)
    (living : r.living = true) (n : Nat) :
    s.demanded h n = ((s.updateRecord h (·.setBacklog n)).judge h, .done none) := by
  simp [State.demanded, own, living, State.updateRecord_some own]

/-- Settles O27: a record that does not live refuses, any other takes the backlog and is judged. -/
theorem demand : Obligations.Demand := by
  intro s tag h n ready
  refine ⟨fun dead => ?_, fun r own living => ?_⟩
  · rw [execDemand_ready ready, State.demanded_notLive dead]
    exact ⟨_, rfl, .of_frame (.refl _ s) tag .notLive⟩
  · rw [execDemand_ready ready, State.demanded_living own living]
    exact ⟨_, rfl, State.judge_updateRecord_ends own (·.setBacklog n) tag (.done none)⟩

/-! ### The Sweeper's step (O32) -/

section
variable {s : State} {h : Nat}

theorem execSweeperStep_ready (free : s.inReset = false) (holder : s.arbiter.holder = some .sweeper)
    (pass : s.sweeper.pass = some h) :
    exec .sweeperStep s =
      .next { s.sweep h with sweeper := { s.sweeper with pass := passAfter h } }.release := by
  rw [exec, execSweeperStep, State.unlessReset_free free, holder, pass]

/-- The step of a handle ends: the table is released, and of the rest of the part no more changes than by the
work of the step and the pass position (R65). -/
theorem State.sweep_ends {u : State} {parts : List Part} (frame : UnchangedExcept parts s u) (w : Sweeper)
    (arbiter : Part.arbiter ∉ parts := by decide) :
    let t := { u with sweeper := w }.release
    t.sweeper = w ∧ TableReleased s t ∧ UnchangedExcept (.sweeper :: .arbiter :: parts) s t := by
  have ends : UnchangedExcept [.sweeper, .arbiter] u { u with sweeper := w }.release :=
    .of_parts fun p => by cases p <;> simp [Part.Same]
  refine ⟨State.release_sweeper _, ?_, fun p out => (frame.trans ends) p fun mem => out ?_⟩
  · rw [TableReleased, ← frame.arbiter arbiter]
    exact State.release_released _
  · simp at mem ⊢
    tauto

/-- A FREE or RETIRING handle, and a linger of 0, are left as they are (R65, R66, R68). -/
theorem State.sweep_left
    (left : s.record h = none ∨ ∃ r, s.record h = some r ∧ (r.living = false ∨ r.linger = 0)) :
    s.sweep h = s := by
  rcases left with free | ⟨r, own, dead | spent⟩
  · simp only [State.sweep, free]
  · simp [State.sweep, own, dead]
  · simp [State.sweep, own, spent]

variable {r : Record} (own : s.record h = some r) (living : r.living = true)
include own

include living in
theorem State.sweep_lowers (long : 2 ≤ r.linger) :
    s.sweep h = s.putRecord h (some { r with linger := r.linger - 1 }) := by
  have counts : r.linger ≠ 0 := by omega
  have stays : r.linger ≠ 1 := by omega
  simp [State.sweep, own, living, counts, stays]

include living in
theorem State.sweep_ages (last : r.linger = 1) : s.sweep h = s.age h r := by
  simp [State.sweep, own, living, last]

/-- With auto-retire ON an ageing record leaves its list (R67, R45). -/
theorem State.age_judged (auto : (s.classSettings r.cls).autoRetire = true) :
    Judged s (s.age h r) r.cls h false := by
  have aged := OneRecord.putRecord own (some { r with linger := 0, aged := true })
  have judged := (State.retire_judged aged.own .aged).from_lists (s := s) rfl rfl
  exact judged.of_lists (by simp [State.age, auto]) (by simp [State.age, auto])

end

theorem State.putRecord_frame (s : State) (h : Nat) (o : Option Record) :
    UnchangedExcept [.records] s (s.putRecord h o) :=
  .of_parts fun p => by cases p <;> simp [Part.Same]

theorem State.age_frame (s : State) (h : Nat) (r : Record) :
    UnchangedExcept [.records, .lists, .skip, .notices] s (s.age h r) :=
  .of_parts fun p => by cases p <;> simp [Part.Same]

theorem State.age_notices (s : State) (h : Nat) (r : Record) :
    NoticesMade s (s.age h r)
      [.aged h r.address r.label (ageOutcome (s.classSettings r.cls).autoRetire r.held)] := by
  simp only [State.age]
  split <;> simp [NoticesMade]

/-- With auto-retire OFF an ageing record stays in its list (R67). -/
theorem State.age_stays {s : State} {r : Record} (auto : (s.classSettings r.cls).autoRetire = false)
    (h : Nat) : (s.age h r).lists = s.lists ∧ (s.age h r).skip = s.skip := by
  simp [State.age, auto]

/-- Settles O32: by the linger of the record; an ageing record by the auto-retire of its class and the tickets
it holds. -/
theorem sweeperStep : Obligations.SweeperStep := by
  refine ⟨fun s h free holder pass => ?_, fun s h r free holder pass own living last => ?_⟩
  · intro w
    refine ⟨fun left => ?_, fun r own living long => ?_⟩
    · rw [execSweeperStep_ready free holder pass, State.sweep_left left]
      exact ⟨_, rfl, State.sweep_ends (.refl [] s) w⟩
    · rw [execSweeperStep_ready free holder pass, State.sweep_lowers own living long]
      obtain ⟨position, released, rest⟩ := State.sweep_ends (s.putRecord_frame h _) w
      exact ⟨_, rfl, position, released, (OneRecord.putRecord own _).of_records (State.release_records _),
        rest⟩
  · rw [execSweeperStep_ready free holder pass, State.sweep_ages own living last]
    obtain ⟨position, released, rest⟩ :=
      State.sweep_ends (s.age_frame h r) { s.sweeper with pass := passAfter h }
    have one := OneRecord.age own
    have made := s.age_notices h r
    refine ⟨_, rfl, released, position, rest, fun off => ?_, fun on empty => ?_, fun on holds => ?_⟩
    · obtain ⟨lists, skip⟩ := State.age_stays off h
      rw [off] at one made
      exact ⟨one.of_records (State.release_records _), (State.release_lists _).trans lists,
        (State.release_skip _).trans skip, (State.release_notices _).trans made⟩
    · rw [on] at one made
      simp only [Record.grownOld, Record.retired, ageOutcome, empty, if_true] at one made
      exact ⟨one.of_records (State.release_records _),
        (State.age_judged own on).of_lists (State.release_lists _) (State.release_skip _),
        (State.release_notices _).trans made⟩
    · rw [on] at one made
      simp only [Record.grownOld, Record.retired, ageOutcome, Nat.ne_of_gt holds, if_true, if_false]
        at one made
      exact ⟨one.of_records (State.release_records _),
        (State.age_judged own on).of_lists (State.release_lists _) (State.release_skip _),
        (State.release_notices _).trans made⟩

end Sys2Proof.Machine
end

section
/-! PROOF. The part left to itself: a stretch of time worked µs by µs, and the commands that name a timed
event (O3, O4, O31). -/

namespace Sys2Proof.Machine

/-! ### A time in which nothing comes up -/

/-- Time passes in one piece as in two. -/
theorem State.passTime_passTime (s : State) (a b : Nat) :
    (s.passTime a).passTime b = s.passTime (a + b) := by
  have ms : (s.time.frac + (a + b)) / 1000 =
      (s.time.frac + a) / 1000 + ((s.time.frac + a) % 1000 + b) / 1000 := by omega
  have frac : ((s.time.frac + a) % 1000 + b) % 1000 = (s.time.frac + (a + b)) % 1000 := by omega
  have tickets : (s.tickets.map (Ticket.after · a)).map (Ticket.after · b) =
      s.tickets.map (Ticket.after · (a + b)) := by
    rw [Vector.map_map]
    refine congrArg (s.tickets.map ·) (funext fun t => ?_)
    cases issue : t.issue <;> simp [Ticket.after, issue, Int.sub_sub]
  have timer : (s.notices.timer.map (· - a)).map (· - b) = s.notices.timer.map (· - (a + b)) := by
    cases s.notices.timer <;> simp [Nat.sub_sub]
  simp only [State.passTime, tickets, timer, ms, frac, Nat.sub_sub, BitVec.add_assoc, BitVec.ofNat_add]

/-- With less than a ms run of the present one, no time changes nothing. -/
theorem State.passTime_zero {s : State} (law : s.TimebaseLaw) : s.passTime 0 = s := by
  have frac : s.time.frac % 1000 = s.time.frac := Nat.mod_eq_of_lt law
  have whole : s.time.frac / 1000 = 0 := Nat.div_eq_of_lt law
  have tickets : s.tickets.map (Ticket.after · 0) = s.tickets := by
    have same : (fun t : Ticket => t.after 0) = id := funext fun t => by
      obtain ⟨seq, issue⟩ := t
      cases issue <;> simp [Ticket.after]
    rw [same, Vector.map_id]
  simp [State.passTime, tickets, frac, whole]

/-- No timer comes to its expiry before `n` µs have passed (R63, R130, R142, R173); the deadlines are left out
while the Ticket Timer has its transaction asked for or granted, since none of them then makes it ask. -/
structure State.ClearFor (s : State) (n : Nat) : Prop where
  window : n ≤ s.gov.windowLeft
  period : n ≤ s.sweeper.periodLeft
  coalesce : ∀ k, s.notices.timer = some k → n ≤ k
  deadline : s.timerAsked = false → ∀ k i, (s.ticket k).issue = some i → (n : Int) ≤ i.left

theorem State.ClearFor.passTime {s : State} {m n : Nat} (clear : s.ClearFor (m + n)) :
    (s.passTime m).ClearFor n where
  window := Nat.le_sub_of_add_le' clear.window
  period := Nat.le_sub_of_add_le' clear.period
  coalesce k timer := by
    obtain ⟨j, running, rfl⟩ := Option.map_eq_some_iff.1 timer
    exact Nat.le_sub_of_add_le' (clear.coalesce j running)
  deadline unasked k i issued := by
    rw [State.ticket_passTime] at issued
    obtain ⟨j, held, rfl⟩ := Option.map_eq_some_iff.1 issued
    have far := clear.deadline unasked k j held
    push_cast at far
    exact Int.le_sub_left_of_add_le far

section
variable {s : State} {n : Nat} (clear : s.ClearFor n) (pos : 0 < n)
include clear pos

theorem State.ClearFor.timerStep : s.timerStep = none := by
  have window : s.gov.windowLeft ≠ 0 := Nat.ne_of_gt (pos.trans_le clear.window)
  have coalesce : s.notices.timer ≠ some 0 := fun out => Nat.not_le.2 pos (clear.coalesce 0 out)
  rw [State.timerStep, if_neg window, if_neg coalesce]

/-- No client but the Medium Engine comes to ask. -/
theorem State.ClearFor.askStep {c : Client} (other : c ≠ .mediumEngine) : s.askStep c = none := by
  refine State.askStep_of_not_comes ?_
  rintro (⟨medium, -⟩ | ⟨-, unasked, k, i, issued, due⟩ | ⟨-, expired⟩)
  · exact other medium
  · have far := clear.deadline unasked k i issued
    omega
  · have far := clear.period
    omega

end

/-- While no timer comes to its expiry, the passage of time does not change what the part does next. -/
theorem State.ownStep_passTime {s : State} {m n : Nat} (clear : s.ClearFor (m + n)) (pos : 0 < n) :
    (s.passTime m).ownStep = s.ownStep := by
  have before : 0 < m + n := Nat.add_pos_right m pos
  have timer : (s.passTime m).timerStep = s.timerStep :=
    (clear.passTime.timerStep pos).trans (clear.timerStep before).symm
  have ask : (s.passTime m).askStep = s.askStep := funext fun c => by
    by_cases medium : c = .mediumEngine
    · subst medium
      rfl
    · rw [clear.passTime.askStep pos medium, clear.askStep before medium]
  have reset : (s.passTime m).inReset = s.inReset := rfl
  have direct : (s.passTime m).directStep = s.directStep := rfl
  have transaction : (s.passTime m).transactionStep = s.transactionStep := rfl
  rw [State.ownStep, State.ownStep, timer, ask, reset, direct, transaction, State.passTime_arbiter]

theorem State.heldStep_passTime {s : State} {m n : Nat} (clear : s.ClearFor (m + n)) (pos : 0 < n) :
    (s.passTime m).heldStep = s.heldStep := by
  have others : (s.passTime m).othersAsking = s.othersAsking := rfl
  rw [State.heldStep, State.heldStep, State.ownStep_passTime clear pos, others]

/-- The rules by which a part left to itself goes on (log entry 3). -/
def passageRules : List (State → Option Instr) := [State.ownStep, State.heldStep]

section
variable {own : State → Option Instr} (rule : own ∈ passageRules)
include rule

theorem State.ownStep_of_rule {s : State} {c : Instr} (next : own s = some c) : s.ownStep = some c := by
  rw [passageRules] at rule
  fin_cases rule
  · exact next
  · exact State.heldStep_own next

theorem State.rule_passTime {s : State} {m n : Nat} (clear : s.ClearFor (m + n)) (pos : 0 < n) :
    own (s.passTime m) = own s := by
  rw [passageRules] at rule
  fin_cases rule
  · exact State.ownStep_passTime clear pos
  · exact State.heldStep_passTime clear pos

end

/-! ### µs by µs -/

/-- The part left to itself for a time, µs by µs: what happens by itself is worked, and then the µs passes. -/
def State.elapseEach (own : State → Option Instr) : Nat → State → State
  | 0, s => s
  | n + 1, s => State.elapseEach own n ((s.settled own).passTime 1)

variable {own : State → Option Instr}

/-- A time in which nothing comes up passes in one piece. -/
theorem State.elapseEach_clear (rule : own ∈ passageRules) :
    ∀ (n d : Nat) (s : State), own s = none → s.ClearFor (n + 1) →
      State.elapseEach own (d + (n + 1)) s = State.elapseEach own d (s.passTime (n + 1))
  | 0, d, s, idle, _ => by rw [State.elapseEach, State.settled_of_none idle]
  | n + 1, d, s, idle, clear => by
    rw [Nat.add_comm (n + 1) 1] at clear ⊢
    have still : own (s.passTime 1) = none := (State.rule_passTime rule clear n.succ_pos).trans idle
    calc State.elapseEach own (d + (1 + (n + 1))) s
        = State.elapseEach own (d + (n + 1)) ((s.settled own).passTime 1) := by
          rw [Nat.add_comm 1, ← Nat.add_assoc, State.elapseEach]
      _ = State.elapseEach own (d + (n + 1)) (s.passTime 1) := by rw [State.settled_of_none idle]
      _ = State.elapseEach own d ((s.passTime 1).passTime (n + 1)) :=
          State.elapseEach_clear rule n d _ still clear.passTime
      _ = State.elapseEach own d (s.passTime (1 + (n + 1))) := by rw [State.passTime_passTime]

/-- Working a moment's own steps to their end beforehand changes nothing. -/
theorem State.elapseEach_settled {s : State} (idle : own (s.settled own) = none) (n : Nat) :
    State.elapseEach own (n + 1) (s.settled own) = State.elapseEach own (n + 1) s := by
  rw [State.elapseEach, State.elapseEach, State.settled_of_none idle]

/-- The nearest deadline is no later than any (R130). -/
theorem nearestDeadline_le {l : List Ticket} {t : Ticket} {i : Issue} (mem : t ∈ l)
    (issued : t.issue = some i) : ∃ n, nearestDeadline l = some n ∧ n ≤ i.left.toNat := by
  induction l with
  | nil => cases mem
  | cons x rest ih =>
    rcases List.mem_cons.1 mem with rfl | later
    · rw [nearestDeadline, issued]
      cases nearestDeadline rest with
      | none => exact ⟨_, rfl, le_rfl⟩
      | some n => exact ⟨_, rfl, min_le_left _ _⟩
    · obtain ⟨n, near, le⟩ := ih later
      rw [nearestDeadline, near]
      cases x.issue with
      | none => exact ⟨n, rfl, le⟩
      | some j => exact ⟨_, rfl, (min_le_right _ _).trans le⟩

theorem State.deadlineLeft_le {s : State} {k : Nat} {i : Issue} (issued : (s.ticket k).issue = some i) :
    ∃ n, nearestDeadline s.tickets.toList = some n ∧ n ≤ i.left.toNat := by
  refine nearestDeadline_le (t := s.ticket k) ?_ issued
  rw [s.tickets_toList]
  exact List.mem_map_of_mem (List.mem_range.2 (State.lt_of_issue issued))

theorem le_boundBy {n limit : Nat} {bound : Option Nat} :
    n ≤ boundBy limit bound ↔ n ≤ limit ∧ ∀ k, bound = some k → n ≤ k := by
  cases bound <;> simp [boundBy]

/-- A stride is one µs, or as long as no timer comes to its expiry in a part that has nothing to do; it is no
longer than the time it is taken from. -/
theorem State.stride_cases (s : State) (own : State → Option Instr) {d : Nat} (pos : 0 < d) :
    ∃ k, s.stride own d = k + 1 ∧ k + 1 ≤ d ∧ (k = 0 ∨ own s = none ∧ s.ClearFor (k + 1)) := by
  rw [State.stride]
  split
  · exact ⟨0, rfl, pos, .inl rfl⟩
  · rename_i idle
    generalize reach : boundBy (boundBy (min d (min s.gov.windowLeft s.sweeper.periodLeft)) s.notices.timer)
      (if s.timerAsked then none else nearestDeadline s.tickets.toList) = n
    match n with
    | 0 => exact ⟨0, rfl, pos, .inl rfl⟩
    | k + 1 =>
      obtain ⟨⟨bounds, coalesce⟩, deadline⟩ := (le_boundBy.1 reach.ge).imp_left le_boundBy.1
      simp only [le_min_iff] at bounds
      obtain ⟨within, window, period⟩ := bounds
      refine ⟨k, max_eq_right (Nat.succ_pos k), within, .inr ⟨by simpa using idle, window, period, coalesce,
        fun unasked j i issued => ?_⟩⟩
      obtain ⟨n, near, le⟩ := State.deadlineLeft_le issued
      have far : k + 1 ≤ n := deadline n (by rw [unasked]; exact near)
      omega

/-- The strides come to what passes µs by µs, and the fuel is enough. -/
theorem State.elapseIn_eq (rule : own ∈ passageRules) (fuel : Nat) :
    ∀ (d : Nat) (s : State), d ≤ fuel → State.elapseIn own fuel d s = State.elapseEach own d s := by
  induction fuel with
  | zero =>
    intro d s enough
    rw [Nat.le_zero.1 enough, State.elapseIn, State.elapseEach]
  | succ fuel ih =>
    intro d s enough
    rw [State.elapseIn]
    split
    · rename_i done
      rw [done, State.elapseEach]
    · rename_i goes
      obtain ⟨k, stride, within, cases⟩ := (s.settled own).stride_cases own (Nat.pos_of_ne_zero goes)
      obtain ⟨e, rfl⟩ := Nat.exists_eq_add_of_le' within
      simp only [stride, Nat.add_sub_cancel]
      rw [ih e _ (by omega)]
      rcases cases with rfl | ⟨idle, clear⟩
      · rw [State.elapseEach]
      · rw [← State.elapseEach_clear rule k e _ idle clear, ← Nat.add_assoc, State.elapseEach_settled idle]

theorem State.elapse_eq (rule : own ∈ passageRules) (s : State) (n : Nat) :
    s.elapse own n = State.elapseEach own n s :=
  State.elapseIn_eq rule n n s le_rfl

/-- A time in which nothing comes up only passes. -/
theorem State.elapse_clear (rule : own ∈ passageRules) {s : State} (idle : own s = none)
    (law : s.TimebaseLaw) {n : Nat} (clear : s.ClearFor n) : s.elapse own n = s.passTime n := by
  cases n with
  | zero => exact (State.passTime_zero law).symm
  | succ n =>
    rw [State.elapse_eq rule, ← Nat.zero_add (n + 1), State.elapseEach_clear rule n 0 s idle clear,
      Nat.zero_add, State.elapseEach]

/-! ### The part left to itself (O4) -/

theorem State.othersAsking_iff (s : State) :
    s.othersAsking = true ↔ ∃ c, c ≠ .sweeper ∧ s.asking c = true := by
  refine ⟨fun others => ?_, fun ⟨c, other, asks⟩ => ?_⟩
  · obtain ⟨c, mem, asks⟩ := List.any_eq_true.1 others
    exact ⟨c, fun same => by simp [same] at mem, asks⟩
  · refine List.any_eq_true.2 ⟨c, ?_, asks⟩
    cases c with
    | sweeper => exact absurd rfl other
    | mediumEngine | requestEngine | ticketTimer => decide

theorem State.heldStep_of_ne {s : State} (other : s.ownStep ≠ some .sweeperStep) :
    s.heldStep = s.ownStep := by
  rw [State.heldStep]
  split
  · rename_i sweeps
    exact absurd sweeps other
  · rfl

theorem State.heldStep_of_sweeperStep {s : State} (sweeps : s.ownStep = some .sweeperStep) :
    s.heldStep = if s.othersAsking then some .sweeperStep else none := by
  simp only [State.heldStep, sweeps]

/-- Settles O4: strides come to single µs, and an own step to its command. -/
theorem timeGoesOn : Obligations.TimeGoesOn := by
  refine ⟨fun s => ⟨State.heldStep_of_ne, fun sweeps => ⟨fun others => ?_, fun alone => ?_⟩⟩,
    fun own rule s => ⟨rfl, fun n => ?_, s.passTime_timePassed, rfl, rfl,
      fun n idle => State.settle_of_none idle n, fun n c t next ran => ?_,
      fun n idle law window period coalesce deadline =>
        State.elapse_clear rule idle law ⟨window, period, coalesce, fun _ => deadline⟩⟩⟩
  · rw [State.heldStep_of_sweeperStep sweeps, if_pos (s.othersAsking_iff.2 others)]
  · rw [State.heldStep_of_sweeperStep sweeps, if_neg]
    intro others
    obtain ⟨c, other, asks⟩ := s.othersAsking_iff.1 others
    rw [alone c other] at asks
    cases asks
  · rw [State.elapse_eq rule, State.elapse_eq rule, State.elapseEach]
  · rw [State.exec_ownStep (State.ownStep_of_rule rule next)] at ran
    cases ran
    exact State.settle_of_some next n

/-! ### The reset inputs while the part is left to itself -/

section
variable (s : State)

theorem State.HostWork.pins {s u : State} {r : Request} (work : s.HostWork r u) : u.pins = s.pins :=
  work.frame .pins (by decide)

theorem State.MediumWork.pins {s u : State} {b : MessageBody} (work : s.MediumWork b u) : u.pins = s.pins :=
  work.frame .pins (by decide)

@[simp] theorem State.serve_pins (offered : Nat) : (s.serve offered).1.pins = s.pins :=
  (s.serve_work offered).pins

@[simp] theorem State.completed_pins (c : Completion) : (s.completed c).1.pins = s.pins :=
  (s.completed_work c).pins

@[simp] theorem State.hear_pins (m : Hearing) : (s.hear m).1.pins = s.pins :=
  (s.hear_work m).pins

@[simp] theorem State.demanded_pins (h n : Nat) : (s.demanded h n).1.pins = s.pins :=
  (s.demanded_work h n).pins

@[simp] theorem State.resynced_pins : s.resynced.pins = s.pins :=
  State.MediumWork.resync.pins

@[simp] theorem State.admitTo_pins (a : Admission) : (s.admitTo a).1.pins = s.pins :=
  (s.admitTo_work a).pins

@[simp] theorem State.amended_pins (h : Nat) (a : Amendment) : (s.amended h a).1.pins = s.pins :=
  (s.amended_work h a).pins

@[simp] theorem State.retired_pins (h : Nat) : (s.retired h).1.pins = s.pins :=
  (s.retired_work h).pins

@[simp] theorem State.readOut_pins (h : Nat) (clear : Bool) : (s.readOut h clear).1.pins = s.pins :=
  (s.readOut_work h clear).pins

@[simp] theorem State.classSet_pins (c : Cls) (i : ClassItems) : (s.classSet c i).1.pins = s.pins :=
  (s.classSet_work c i).pins

theorem State.workMessage_pins (m : RawMessage) : (s.workMessage m).pins = s.pins := by
  rcases s.workMessage_cases m with ⟨a, same⟩ | ⟨d, -, same⟩ | ⟨b, -, same⟩ <;> simp [same]

theorem State.ticketDue_pins : s.ticketDue.pins = s.pins := by
  rw [State.ticketDue]
  split <;> simp

theorem State.periodExpired_pins : s.periodExpired.pins = s.pins := by
  simp only [State.periodExpired]
  split <;> simp

end

section
variable {s : State}

theorem State.unlessReset_pins {f : State → State} (keeps : (f s).pins = s.pins) :
    (stateAfter s (s.unlessReset f)).pins = s.pins := by
  change (if s.inReset then s else f s).pins = s.pins
  split
  · rfl
  · exact keeps

/-- An optional next state, with the present one for none. -/
theorem State.getD_pins {o : Option State} (keeps : ∀ t, o = some t → t.pins = s.pins) :
    (o.getD s).pins = s.pins := by
  cases o with
  | none => rfl
  | some t => exact keeps t rfl

theorem State.inMediumTransaction_pins {f : Message → Option State}
    (keeps : ∀ m t, f m = some t → t.pins = s.pins) :
    (stateAfter s (s.inMediumTransaction f)).pins = s.pins :=
  State.unlessReset_pins <| by
    split
    · exact State.getD_pins (keeps _)
    · rfl

theorem State.inHostTransaction_pins {f : Request → Option State}
    (keeps : ∀ r t, f r = some t → t.pins = s.pins) :
    (stateAfter s (s.inHostTransaction f)).pins = s.pins :=
  State.unlessReset_pins <| by
    split
    · exact State.getD_pins (keeps _)
    · rfl

theorem State.inHostRequest_pins {f : Request → Option State}
    (keeps : ∀ r t, f r = some t → t.pins = s.pins) :
    (stateAfter s (s.inHostRequest f)).pins = s.pins :=
  State.unlessReset_pins <| by
    split
    · exact State.getD_pins (keeps _)
    · rfl

end

/-- No step of the part's own touches the reset inputs. -/
theorem State.ownEffect_pins (s : State) (c : Instr) : (s.ownEffect c).pins = s.pins := by
  cases c with
  | messageTake =>
    refine State.unlessReset_pins ?_
    split
    · split
      · rfl
      · exact State.workMessage_pins _ _
    · rfl
  | opportunity | complete | heard | demand | resync =>
    refine State.inMediumTransaction_pins fun m t next => ?_
    split at next <;> cases next
    simp
  | expiry =>
    refine State.unlessReset_pins ?_
    split
    · rw [State.release_pins]
      exact s.expireEarliest_work.frame .pins (by decide)
    · rfl
  | sweeperStep =>
    refine State.unlessReset_pins ?_
    split <;> simp
  | ticketDue => exact s.ticketDue_pins
  | periodTimerExpiry => exact s.periodExpired_pins
  | windowEnd => exact s.setGovernorState_pins _
  | coalesceTimerExpiry => rfl
  | admitStation | amend | retire | lookup | readRecord | list | readTickets | setClass | setScheduler
  | resetFull | resetAccounts =>
    refine State.inHostTransaction_pins fun r t next => ?_
    split at next <;> cases next
    simp
  | setTierWrite | setTierInvalidate =>
    refine State.inHostTransaction_pins fun r t next => ?_
    split at next
    · split at next <;> cases next <;> simp
    · cases next
  | identify | setPresence | setNotice | readGovernor | hold | fetchNotices =>
    refine State.inHostRequest_pins fun r t next => ?_
    split at next <;> cases next
    simp
  | setGovernor =>
    refine State.inHostRequest_pins fun r t next => ?_
    split at next
    · split at next <;> cases next <;> simp
    · cases next
  | readSettings =>
    refine State.inHostRequest_pins fun r t next => ?_
    split at next
    · split at next
      · split at next <;> cases next
        simp
      · cases next
        simp
    · cases next
  | hardReset | messageArrival | strayBodyWord | answerWordRead | holdCounterExpiry | submit | collect
  | statusOnlyTransaction | assemblyWord | csnSeenHigh => rfl

/-- A part out of reset stays out of it while it is left to itself. -/
theorem State.settled_free {s : State} (free : s.inReset = false) (own : State → Option Instr) :
    (s.settled own).inReset = false :=
  State.settle_induction (P := fun t => t.inReset = false)
    (fun t c before _ => by rwa [State.inReset, t.ownEffect_pins c]) _ s free

theorem State.elapse_free {s : State} (free : s.inReset = false) (own : State → Option Instr) (n : Nat) :
    (s.elapse own n).inReset = false :=
  State.elapse_induction (P := fun t => t.inReset = false)
    (fun t c before _ => by rwa [State.inReset, t.ownEffect_pins c]) (fun _ _ before => before) s n free

/-! ### The commands that name a timed event (O3, O31) -/

/-- A command that stands for the time left to an event and then the event (log entry 3). -/
def IsTimed (c : Instr) (own : State → Option Instr) (left : State → Option Nat)
    (event : State → State) : Prop :=
  ∀ s : State, s.inReset = false → exec c s = .next (s.timedEvent own left event)

/-- The commands that name a timed event, each with the rule of its time and the time left to it. -/
def timedCommands : List (Instr × (State → Option Instr) × (State → Option Nat)) :=
  [(.ticketDue, State.heldStep, State.deadlineLeft), (.periodTimerExpiry, State.heldStep, State.periodLeft),
    (.windowEnd, State.heldStep, State.windowLeft), (.holdCounterExpiry, State.ownStep, State.holdLeft),
    (.coalesceTimerExpiry, State.heldStep, State.coalesceLeft)]

theorem IsTimed.of_guarded {c : Instr} {own : State → Option Instr} {left : State → Option Nat}
    {event : State → State} (meaning : ∀ s : State, exec c s = s.unlessReset (·.timedEvent own left event)) :
    IsTimed c own left event := fun s free => by
  rw [meaning, State.unlessReset_free free]

theorem isTimed_periodTimerExpiry :
    IsTimed .periodTimerExpiry State.heldStep State.periodLeft State.periodExpired := .of_guarded fun _ => rfl

theorem exists_isTimed {p : Instr × (State → Option Instr) × (State → Option Nat)}
    (mem : p ∈ timedCommands) : ∃ event, IsTimed p.1 p.2.1 p.2.2 event := by
  rw [timedCommands] at mem
  fin_cases mem
  · exact ⟨State.ticketDue, .of_guarded fun _ => rfl⟩
  · exact ⟨State.periodExpired, isTimed_periodTimerExpiry⟩
  · exact ⟨State.windowEnded, .of_guarded fun _ => rfl⟩
  · exact ⟨id, .of_guarded fun _ => rfl⟩
  · exact ⟨State.coalesceExpired, .of_guarded fun _ => rfl⟩

section
variable {c : Instr} {own : State → Option Instr} {left : State → Option Nat} {event : State → State}
  (timed : IsTimed c own left event) {s : State} (free : s.inReset = false)
include timed free

theorem IsTimed.exec_none (never : left s = none) : exec c s = .next s := by
  rw [timed s free, State.timedEvent_none never]

theorem IsTimed.exec_now (now : left s = some 0) : exec c s = .next (event s) := by
  rw [timed s free, State.timedEvent_now now]

section
variable {n : Nat} (later : left s = some (n + 1))
include later

/-- What happens by itself at this moment has done away with the event. -/
theorem IsTimed.exec_gone (gone : left (s.settled own) = none) : exec c s = .next (s.settled own) := by
  rw [timed s free, State.timedEvent, State.upTo_gone later gone, if_neg (by simp [gone])]

variable {m : Nat} (comes : left (s.settled own) = some m)
include comes

/-- The time left has brought the event, which then happens as at its moment. -/
theorem IsTimed.exec_reached (reached : left ((s.settled own).elapse own m) = some 0) :
    exec c s = exec c ((s.settled own).elapse own m) := by
  rw [timed.exec_now (State.elapse_free (State.settled_free free own) own m) reached, timed s free,
    State.timedEvent, State.upTo_later later comes, if_pos reached]

/-- What happened meanwhile has put the event off. -/
theorem IsTimed.exec_putOff (off : left ((s.settled own).elapse own m) ≠ some 0) :
    exec c s = .next ((s.settled own).elapse own m) := by
  rw [timed s free, State.timedEvent, State.upTo_later later comes, if_neg off]

end
end

/-- Settles O3: the five commands are timed, and a timed command is its event at the end of the time left. -/
theorem timedCommandsReachTheirEvent : Obligations.TimedCommandsReachTheirEvent := by
  intro s free p mem c own left
  obtain ⟨event, timed⟩ := exists_isTimed mem
  exact ⟨timed.exec_none free, fun n later => ⟨timed.exec_gone free later, fun m comes =>
    ⟨timed.exec_reached free later comes, timed.exec_putOff free later comes⟩⟩⟩

theorem State.ask_asked (s : State) (c : Client) : TableAsked s (s.ask c) c := by
  rw [TableAsked, State.ask]
  cases holder : s.arbiter.holder <;> rfl

theorem State.periodExpired_running {s : State} {h : Nat} (pass : s.sweeper.pass = some h) :
    s.periodExpired = { s with sweeper := ⟨s.settings.presence.passPeriod * 1000, some h⟩ } := by
  simp only [State.periodExpired, pass]

theorem State.periodExpired_begins {s : State} (pass : s.sweeper.pass = none) :
    s.periodExpired =
      { s with sweeper := ⟨s.settings.presence.passPeriod * 1000, some 0⟩ }.ask .sweeper := by
  simp only [State.periodExpired, pass]

/-- A pass that runs is found running by the expiry (R64). -/
theorem execPeriodTimerExpiry_running {s : State} {h : Nat} (free : s.inReset = false)
    (pass : s.sweeper.pass = some h) (now : s.sweeper.periodLeft = 0) :
    ∃ t, exec .periodTimerExpiry s = .next t ∧
      t.sweeper = ⟨s.settings.presence.passPeriod * 1000, some h⟩ ∧ UnchangedExcept [.sweeper] s t := by
  refine ⟨_, isTimed_periodTimerExpiry.exec_now free (congrArg some now), ?_⟩
  rw [State.periodExpired_running pass]
  exact ⟨rfl, .of_parts fun p => by cases p <;> simp [Part.Same]⟩

/-- With no pass running the expiry begins one (R64). -/
theorem execPeriodTimerExpiry_begins {s : State} (free : s.inReset = false)
    (pass : s.sweeper.pass = none) (now : s.sweeper.periodLeft = 0) :
    ∃ t, exec .periodTimerExpiry s = .next t ∧
      t.sweeper = ⟨s.settings.presence.passPeriod * 1000, some 0⟩ ∧ TableAsked s t .sweeper ∧
      UnchangedExcept [.sweeper, .arbiter] s t := by
  refine ⟨_, isTimed_periodTimerExpiry.exec_now free (congrArg some now), ?_⟩
  rw [State.periodExpired_begins pass]
  exact ⟨State.ask_sweeper _ _, State.ask_asked _ _, .of_parts fun p => by cases p <;> simp [Part.Same]⟩

/-- Over a time in which nothing comes up the command is that of the end of the time. -/
theorem execPeriodTimerExpiry_clear {s : State} (free : s.inReset = false) (idle : s.heldStep = none)
    (law : s.TimebaseLaw) (pos : 0 < s.sweeper.periodLeft) (clear : s.ClearFor s.sweeper.periodLeft) :
    exec .periodTimerExpiry s = exec .periodTimerExpiry (s.passTime s.sweeper.periodLeft) := by
  obtain ⟨n, left⟩ := Nat.exists_eq_add_one_of_ne_zero (Nat.ne_of_gt pos)
  have settled : s.settled State.heldStep = s := State.settled_of_none idle
  have passes : (s.settled State.heldStep).elapse State.heldStep s.sweeper.periodLeft =
      s.passTime s.sweeper.periodLeft := by
    rw [settled, State.elapse_clear (by simp [passageRules]) idle law clear]
  have ended : State.periodLeft (s.passTime s.sweeper.periodLeft) = some 0 := by
    simp [State.periodLeft]
  have reached := isTimed_periodTimerExpiry.exec_reached (m := s.sweeper.periodLeft) free
    (congrArg some left) (by rw [settled, State.periodLeft])
  rw [passes] at reached
  exact reached ended

/-- Settles O31: by whether a pass runs; an expiry to come is that of the state the time leaves. -/
theorem periodTimerExpiry : Obligations.PeriodTimerExpiry := by
  refine fun s free => ⟨rfl, fun now => ?_, fun h pass idle law pos window coalesce deadline => ?_⟩
  · cases pass : s.sweeper.pass with
    | some h =>
      obtain ⟨t, ran, found⟩ := execPeriodTimerExpiry_running free pass now
      exact ⟨t, ran, fun k same => by cases same; exact found, nofun⟩
    | none =>
      obtain ⟨t, ran, begun⟩ := execPeriodTimerExpiry_begins free pass now
      exact ⟨t, ran, nofun, fun _ => begun⟩
  · have clear : s.ClearFor s.sweeper.periodLeft := ⟨window, le_rfl, coalesce, fun _ => deadline⟩
    obtain ⟨t, ran, found⟩ :=
      execPeriodTimerExpiry_running (s := s.passTime s.sweeper.periodLeft) free pass (Nat.sub_self _)
    exact ⟨_, t, s.passTime_timePassed _,
      (execPeriodTimerExpiry_clear free idle law pos clear).trans ran, found⟩

end Sys2Proof.Machine
end

section
/-! PROOF. Balances between their bounds after every step, and RESET ACCOUNTS (O59, O12). -/

namespace Sys2Proof.Machine

/-! ### The class settings (O59) -/

theorem State.ClassSettingsLaw.of_quiet {s : State} (quiet : ∀ r, s.req.port ≠ .working r)
    (range : ∀ c, (s.classSettings c).InRange) : s.ClassSettingsLaw :=
  ⟨range, fun _ _ port => absurd port (quiet _)⟩

theorem State.ClassSettingsLaw.congr {s t : State} (law : s.ClassSettingsLaw)
    (port : t.req.port = s.req.port) (classes : t.settings.classes = s.settings.classes) :
    t.ClassSettingsLaw := by
  have same : t.classSettings = s.classSettings := by
    funext c
    rw [State.classSettings, State.classSettings, classes]
  exact ⟨fun c => same ▸ law.inRange c, fun c i working => same ▸ law.held c i (port ▸ working)⟩

/-- SET_CLASS is the one request that writes class settings, and its own are in range when it carries what
it should (R34, R35). -/
theorem State.HostWork.classesInRange {s u : State} {r : Request} (work : s.HostWork r u)
    (fits : ∀ c i, r = .setClass c i → (i.apply (s.classSettings c)).InRange)
    (range : ∀ c, (s.classSettings c).InRange) (d : Cls) : (u.classSettings d).InRange := by
  cases work with
  | @setClass c i room =>
    rw [State.classSettings_applyClass]
    split
    · exact fits c i rfl
    · exact range d
  | @amend h a => exact State.classSettings_congr (s.applyAmendment_frame h a).settings d ▸ range d
  | setGovernor i => simpa only [State.classSettings, State.setGovernorState_settings] using range d
  | nothing | retire | clearMarks | admission | setTierWrite | setTierInvalidate | setScheduler
  | setPresence | setNotice | readGovernor | hold | fetchNotices | resetAccounts =>
    simpa [State.classSettings, State.admitAt] using range d

/-- Every move keeps the class settings in range, also after a SET_CLASS that the port holds (R33, R34). -/
theorem State.Move.classSettingsLaw {s t : State} (move : s.Move t) (law : s.ClassSettingsLaw) :
    t.ClassSettingsLaw := by
  cases move with
  | host a port work =>
    refine .of_quiet (fun r => by simp [State.endHost]) fun c => ?_
    rw [State.classSettings_congr (State.endHost_settings _ _)]
    exact work.classesInRange (fun c i same => law.held c i (same ▸ port)) law.inRange c
  | direct a port _ work =>
    exact .of_quiet (fun r => by simp)
      (work.classesInRange (fun c i same => law.held c i (same ▸ port)) law.inRange)
  | medium a holder held work => exact law.congr (by simp [work.frame.req]) (by simp [work.frame.settings])
  | expiry work => exact law.congr (by simp [work.frame.req]) (by simp [work.frame.settings])
  | sweep pass work => exact law.congr (by simp [work.frame.req]) (by simp [work.frame.settings])
  | take =>
    exact law.congr (by rw [State.workMessage_req]) (by rw [State.workMessage_settings])
  | ticketDue => exact law.congr (by rw [s.ticketDue_req]) (by rw [s.ticketDue_settings])
  | periodExpired => exact law.congr (by rw [s.periodExpired_req]) (by rw [s.periodExpired_settings])
  | windowEnded => exact law.congr (by simp [State.windowEnded]) (by simp [State.windowEnded])
  | link port =>
    rcases port with same | ⟨idle, -⟩
    · exact law.congr same rfl
    · exact .of_quiet (fun r => by simp [idle]) law.inRange
  | refused a => exact .of_quiet (fun r => by simp) law.inRange
  | @submitted code body r idle parsed =>
    have same := State.classSettings_congr (s.startRequest_settings r)
    refine ⟨fun c => same c ▸ law.inRange c, fun c i port => ?_⟩
    rw [State.startRequest_port] at port
    cases port
    exact same c ▸ parseRequest_fits law.inRange parsed
  | reset port pending blocks =>
    refine .of_quiet (fun r => ?_) fun c => ?_
    · rcases port with idle | ⟨a, ready⟩
      · simp [idle]
      · simp [ready]
    · exact State.classSettings_congr blocks.settings c ▸ Settings.reset_sound.classes c
  | time | word | read | coalesceExpired | pins => exact law.congr rfl rfl

/-- Settles O59: the balances are kept together with the class settings that bound them. -/
theorem stepKeepsBalanceLaw : Obligations.StepKeepsBalanceLaw := fun _ _ settings law ran =>
  (step_keeps (P := fun s => s.ClassSettingsLaw ∧ s.BalanceLaw)
    (fun move laws => ⟨move.classSettingsLaw laws.1, move.balanceLaw laws.1.inRange laws.2⟩)
    (fun laws _ => ⟨laws.1.congr rfl rfl, laws.2⟩) ⟨settings, law⟩ ran).2

/-! ### RESET ACCOUNTS (O12) -/

/-- Settles O12: one map over the records, with the skip counter and the governor. -/
theorem resetAccounts : Obligations.ResetAccounts := fun s ready =>
  ⟨_, State.inHostTransaction_ready ready _,
    .of_frame (.of_parts fun p => by cases p <;> simp [Part.Same]) _,
    fun h => (State.record_congr (State.endHost_records _ _) h).trans (s.record_mapRecords _ h),
    State.endHost_skip _ _, State.endHost_gov _ _⟩

end Sys2Proof.Machine
end

section
/-! PROOF. The Tier Table: the tier of a rate, and SET_TIER (O49, O50). -/

namespace Sys2Proof.Machine

/-! ### The tier of a rate (O49) -/

/-- The search comes to a tier exactly where its first entry is valid. -/
theorem tierFrom_eq_none {rate i : Nat} {l : List (Option TierEntry)} :
    tierFrom rate i l = none ↔ (l[0]?).join = none := by
  rcases l with - | ⟨- | e, rest⟩
  · simp [tierFrom]
  · simp [tierFrom]
  · rw [tierFrom]
    split
    · simp
    · split <;> simp

/-- What the search finds of entries `l` numbered from `i`, their entry `m` being the tier: the first entry
that is at its end or has a limit of at least the rate (R75). -/
structure TierAt (rate : Nat) (l : List (Option TierEntry)) (m : Nat) (e : TierEntry) : Prop where
  valid : (l[m]?).join = some e
  below : ∀ j d, j < m → (l[j]?).join = some d → d.rateLimit < rate
  chosen : rate ≤ e.rateLimit ∨ (l[m + 1]?).join = none

theorem tierAt_zero {rate : Nat} {rest : List (Option TierEntry)} {e f : TierEntry} :
    TierAt rate (some e :: rest) 0 f ↔ e = f ∧ (rate ≤ f.rateLimit ∨ (rest[0]?).join = none) :=
  ⟨fun ⟨valid, _, chosen⟩ => ⟨by simpa using valid, by simpa using chosen⟩,
    fun ⟨same, chosen⟩ => ⟨by simpa using same, nofun, by simpa using chosen⟩⟩

theorem tierAt_succ {rate m : Nat} {rest : List (Option TierEntry)} {e f : TierEntry} :
    TierAt rate (some e :: rest) (m + 1) f ↔ e.rateLimit < rate ∧ TierAt rate rest m f := by
  refine ⟨fun ⟨valid, below, chosen⟩ => ⟨below 0 e (Nat.succ_pos m) rfl, by simpa using valid,
    fun j d lt own => below (j + 1) d (by omega) (by simpa using own), by simpa using chosen⟩,
    fun ⟨low, valid, below, chosen⟩ => ⟨by simpa using valid, fun j d lt own => ?_, by simpa using chosen⟩⟩
  cases j with
  | zero =>
    cases own
    exact low
  | succ j => exact below j d (by omega) (by simpa using own)

/-- The tier is the first entry, or one of the rest and the first is below the rate. -/
theorem exists_tierAt_cons {rate i k : Nat} {rest : List (Option TierEntry)} {e f : TierEntry} :
    (∃ m, k = i + m ∧ TierAt rate (some e :: rest) m f) ↔
      (k = i ∧ e = f ∧ (rate ≤ f.rateLimit ∨ (rest[0]?).join = none)) ∨
      (e.rateLimit < rate ∧ ∃ m, k = i + 1 + m ∧ TierAt rate rest m f) := by
  rw [← Nat.or_exists_add_one]
  simp only [tierAt_zero, tierAt_succ]
  grind

/-- An invalid first entry leaves no valid entry behind it (R74). -/
theorem valid_zero {l : List (Option TierEntry)}
    (contiguous : ∀ j, (l[j + 1]?).join.isSome = true → (l[j]?).join.isSome = true) {m : Nat}
    (valid : (l[m]?).join.isSome = true) : (l[0]?).join.isSome = true := by
  induction m with
  | zero => exact valid
  | succ m ih => exact ih (contiguous m valid)

/-- The search in entries of which none is valid behind an invalid one (R75). -/
theorem tierFrom_eq_some {rate i k : Nat} {e : TierEntry} {l : List (Option TierEntry)}
    (contiguous : ∀ j, (l[j + 1]?).join.isSome = true → (l[j]?).join.isSome = true) :
    tierFrom rate i l = some (k, e) ↔ ∃ m, k = i + m ∧ TierAt rate l m e := by
  induction l generalizing i with
  | nil => exact ⟨nofun, fun ⟨_, _, found⟩ => by cases found.valid⟩
  | cons o rest ih =>
    have later := ih (i := i + 1) fun j => contiguous (j + 1)
    cases o with
    | none =>
      refine ⟨nofun, fun ⟨m, _, found⟩ => ?_⟩
      cases valid_zero contiguous (Option.isSome_of_eq_some found.valid)
    | some d =>
      rw [exists_tierAt_cons, ← later, tierFrom]
      by_cases reached : rate ≤ d.rateLimit
      · grind
      · cases behind : tierFrom rate (i + 1) rest with
        | none => grind [tierFrom_eq_none]
        | some t =>
          have more : (rest[0]?).join ≠ none := fun last => by
            rw [tierFrom_eq_none.2 last] at behind
            cases behind
          grind

theorem Settings.tier_eq_toList (g : Settings) (k : Nat) : g.tier k = (g.tiers.toList[k]?).join := by
  simp [Settings.tier]

/-- In a well-formed Tier Table every rate has a tier (R74). -/
theorem Settings.TierLaw.tierOf_isSome {g : Settings} (law : g.TierLaw) (rate : Nat) :
    (g.tierOf rate).isSome = true := by
  have first := law.first
  rw [g.tier_eq_toList] at first
  rw [Option.isSome_iff_ne_none, Settings.tierOf, Ne, tierFrom_eq_none]
  exact Option.isSome_iff_ne_none.1 first

/-- Settles O49: the entries of a well-formed table are valid up to one of them. -/
theorem tierOfRate : Obligations.TierOfRate := fun g rate k e law => by
  have contiguous := law.contiguous
  simp only [g.tier_eq_toList] at contiguous ⊢
  rw [Settings.tierOf, tierFrom_eq_some contiguous]
  constructor
  · rintro ⟨m, rfl, valid, below, chosen⟩
    rw [Nat.zero_add]
    exact ⟨valid, below, chosen⟩
  · rintro ⟨valid, below, chosen⟩
    exact ⟨k, (Nat.zero_add k).symm, valid, below, chosen⟩

/-! ### SET_TIER (O50) -/

theorem Settings.validTiers_eq (g : Settings) :
    g.validTiers = ((List.range 8).filter fun j => (g.tier j).isSome).length := by
  have entries : g.tiers.toList = (List.range 8).map g.tier := by
    refine List.ext_getElem (by simp) fun n _ lt => ?_
    have : n < 8 := by simpa using lt
    simp [Settings.tier, this]
  rw [Settings.validTiers, entries, List.countP_map, List.countP_eq_length_filter]
  rfl

/-- When a WRITE breaks the order of the table (R78). -/
theorem Settings.writeBreaksOrder_iff {g : Settings} {k : Nat} {e : TierEntry} :
    g.writeBreaksOrder k e = true ↔
      (0 < k ∧ g.tier (k - 1) = none) ∨
      (0 < k ∧ ∃ d, g.tier (k - 1) = some d ∧ e.rateLimit ≤ d.rateLimit) ∨
      (k < 7 ∧ ∃ d, g.tier (k + 1) = some d ∧ d.rateLimit ≤ e.rateLimit) := by
  rw [Settings.writeBreaksOrder]
  cases g.tier (k - 1) <;> cases g.tier (k + 1) <;> simp

/-- When an INVALIDATE is refused (R79). -/
theorem Settings.invalidateBreaksOrder_iff {g : Settings} {k : Nat} :
    g.invalidateBreaksOrder k = true ↔ g.tier k = none ∨ g.tier (k + 1) ≠ none ∨ k = 0 := by
  simp [Settings.invalidateBreaksOrder, Option.isSome_iff_ne_none, or_assoc]

/-- A refused SET_TIER changes nothing (R78, R79). -/
theorem State.endHost_order (s : State) :
    EndsHost s (s.endHost (.order s.settings.validTiers))
      (.order ((List.range 8).filter fun j => (s.settings.tier j).isSome).length) [] :=
  s.settings.validTiers_eq ▸ .of_frame (.refl _ s) _

/-- A SET_TIER that is not refused writes one entry (R78, R79). -/
theorem State.endHost_putTier (s : State) {k : Nat} (entry : k < 8) (e : Option TierEntry) :
    let t := (s.putTier k e).endHost .done
    EndsHost s t .done [.settings] ∧ t.settings = { s.settings with tiers := t.settings.tiers } ∧
      t.settings.tier k = e ∧ ∀ j, j ≠ k → t.settings.tier j = s.settings.tier j := by
  refine ⟨.of_frame (.of_parts fun p => by cases p <;> simp [Part.Same]) _, by simp, ?_, fun j other => ?_⟩
  · rw [State.endHost_settings, Settings.tier_putTier, if_pos ⟨rfl, entry⟩]
  · rw [State.endHost_settings, Settings.tier_putTier, if_neg fun same => other same.1.symm]

section
variable {s : State} {k : Nat}

theorem execSetTierWrite_ready {e : TierEntry} (ready : s.HostReady (.setTierWrite k e)) :
    exec .setTierWrite s = .next (if s.settings.writeBreaksOrder k e
      then s.endHost (.order s.settings.validTiers) else (s.putTier k (some e)).endHost .done) := by
  refine (State.inHostTransaction_ready ready _).trans (congrArg _ ?_)
  dsimp only
  split <;> rfl

theorem execSetTierInvalidate_ready (ready : s.HostReady (.setTierInvalidate k)) :
    exec .setTierInvalidate s = .next (if s.settings.invalidateBreaksOrder k
      then s.endHost (.order s.settings.validTiers) else (s.putTier k none).endHost .done) := by
  refine (State.inHostTransaction_ready ready _).trans (congrArg _ ?_)
  dsimp only
  split <;> rfl

end

/-- Settles O50: the order check decides between the refusal and the write of one entry. -/
theorem setTier : Obligations.SetTier := by
  refine fun s k entry => ⟨fun e ready => ⟨fun breaks => ?_, fun keeps => ?_⟩,
    fun ready => ⟨fun breaks => ?_, fun keeps => ?_⟩⟩
  · rw [execSetTierWrite_ready ready, if_pos (Settings.writeBreaksOrder_iff.2 breaks)]
    exact ⟨_, rfl, s.endHost_order⟩
  · rw [execSetTierWrite_ready ready, if_neg (mt Settings.writeBreaksOrder_iff.1 keeps)]
    exact ⟨_, rfl, s.endHost_putTier entry (some e)⟩
  · rw [execSetTierInvalidate_ready ready, if_pos (Settings.invalidateBreaksOrder_iff.2 breaks)]
    exact ⟨_, rfl, s.endHost_order⟩
  · rw [execSetTierInvalidate_ready ready, if_neg (mt Settings.invalidateBreaksOrder_iff.1 keeps)]
    exact ⟨_, rfl, s.endHost_putTier entry none⟩

end Sys2Proof.Machine
end

section
/-! PROOF. The visits of an OPPORTUNITY: what one visit does, the visits of a turn and of the class order as
a sequence of these, and what they leave of the lists and the accounts (O21). -/

namespace Sys2Proof.Machine

/-! ### One visit -/

/-- A visit in the list of a class that grants nothing (Table 5-4): the head is passed over, or topped up. -/
inductive State.PlainVisit (s : State) (c : Cls) : State → Prop
  | pass {h : Nat} {rest : List Nat} (head : s.lists.get c = h :: rest)
      (barred : ∀ r, s.record h = some r → (s.classSettings r.cls).ticketCap ≤ r.held ∨
        s.pool = [] ∨ s.settings.tierOf r.rate = none) : s.PlainVisit c (s.rotate c)
  | topUp {h : Nat} {rest : List Nat} {r : Record} (head : s.lists.get c = h :: rest)
      (own : s.record h = some r) (room : r.held < (s.classSettings r.cls).ticketCap)
      (low : r.balance ≤ 0) : s.PlainVisit c ((s.putRecord h (some (s.toppedUp r))).rotate c)

/-- A visit in the list of a class that grants the head ticket of the pool, with its answer (R109 to
R113). -/
inductive State.GrantVisit (s : State) (rd : Readings) (offered : Nat) (c : Cls) :
    State → MediumAnswer → Prop
  | issue {h n k : Nat} {rest pool : List Nat} {r : Record} {e : TierEntry}
      (head : s.lists.get c = h :: rest) (own : s.record h = some r)
      (room : r.held < (s.classSettings r.cls).ticketCap) (rich : 0 < r.balance)
      (free : s.pool = n :: pool) (tier : s.settings.tierOf r.rate = some (k, e)) :
      s.GrantVisit rd offered c ((s.issueTo n h r (grantLimit r e rd.crowded offered)).rotate c)
        (.grant n ((s.ticket n).seq + 1) h r.address (grantLimit r e rd.crowded offered)
          (min e.frameCap r.backlog))

/-- The kind of a visit, each with its condition (Table 5-4). -/
theorem State.visitKind_cases (s : State) (r : Record) :
    (s.visitKind r = .capped ∧ (s.classSettings r.cls).ticketCap ≤ r.held) ∨
    (s.visitKind r = .topUp ∧ r.held < (s.classSettings r.cls).ticketCap ∧ r.balance ≤ 0) ∨
    (s.visitKind r = .grant ∧ r.held < (s.classSettings r.cls).ticketCap ∧ 0 < r.balance) := by
  simp only [State.visitKind]
  grind

/-- The first visit of a turn in a list that is not empty, and what follows it (R103, R104). -/
theorem State.turn_succ {s : State} {rd : Readings} {offered : Nat} {c : Cls}
    (some_head : s.lists.get c ≠ []) (n : Nat) :
    (∃ u, s.PlainVisit c u ∧
      State.turn rd offered c (n + 1) s = (State.turn rd offered c n u).more) ∨
    ∃ u a, s.GrantVisit rd offered c u a ∧ State.turn rd offered c (n + 1) s = ⟨u, 1, some a⟩ := by
  obtain ⟨h, rest, head⟩ := List.exists_cons_of_ne_nil some_head
  cases own : s.record h with
  | none => exact .inl ⟨_, .pass head (by simp [own]), by simp only [State.turn, head, own]⟩
  | some r =>
    rcases s.visitKind_cases r with ⟨kind, full⟩ | ⟨kind, room, low⟩ | ⟨kind, room, rich⟩
    · exact .inl ⟨_, .pass head (by grind), by simp only [State.turn, head, own, kind]⟩
    · exact .inl ⟨_, .topUp head own room low, by simp only [State.turn, head, own, kind]⟩
    · cases free : s.pool with
      | nil =>
        exact .inl ⟨_, .pass head (by grind),
          by simp only [State.turn, State.grantVisit, head, own, kind, free]⟩
      | cons t pool =>
        cases tier : s.settings.tierOf r.rate with
        | none =>
          exact .inl ⟨_, .pass head (by grind),
            by simp only [State.turn, State.grantVisit, head, own, kind, free, tier]⟩
        | some i =>
          exact .inr ⟨_, _, .issue head own room rich free tier,
            by simp only [State.turn, State.grantVisit, head, own, kind, free, tier]⟩

/-! ### A sequence of visits -/

/-- Visits that grant nothing lead from one state to another, so many in the list of each class. -/
inductive State.Visits (s : State) : (Cls → Nat) → State → Prop
  | start : s.Visits 0 s
  | more {v : Cls → Nat} {t u : State} {c : Cls} (before : s.Visits v t) (visit : t.PlainVisit c u) :
      s.Visits (v + Pi.single c 1) u

/-- What a turn of at most `n` visits comes to, after the visits `v`. -/
inductive State.TurnOutcome (s : State) (rd : Readings) (offered : Nat) (c : Cls) (v : Cls → Nat)
    (n : Nat) : Turn → Prop
  | through {u : State} (visits : s.Visits (v + Pi.single c n) u) :
      s.TurnOutcome rd offered c v n ⟨u, n, none⟩
  | granted {m : Nat} {u w : State} {a : MediumAnswer} (within : m < n)
      (visits : s.Visits (v + Pi.single c m) u) (grant : u.GrantVisit rd offered c w a) :
      s.TurnOutcome rd offered c v n ⟨w, m + 1, some a⟩

section
variable {v : Cls → Nat} {c : Cls}

theorem add_single_of_ne {d : Cls} (other : d ≠ c) (n : Nat) : (v + Pi.single c n : Cls → Nat) d = v d := by
  rw [Pi.add_apply, Pi.single_eq_of_ne other, Nat.add_zero]

theorem add_single_self (n : Nat) : (v + Pi.single c n : Cls → Nat) c = v c + n := by
  rw [Pi.add_apply, Pi.single_eq_same]

end

theorem State.PlainVisit.lists {s t : State} {c : Cls} (visit : s.PlainVisit c t) :
    t.lists = s.lists.set c (rotated (s.lists.get c)) := by
  cases visit <;> rfl

theorem rotated_eq_rotate (l : List Nat) : rotated l = l.rotate 1 := by
  cases l <;> simp [rotated]

/-- A list rotated once more (R93). -/
theorem get_set_rotated {l m : ClassMap (List Nat)} {v : Cls → Nat}
    (before : ∀ d, m.get d = (l.get d).rotate (v d)) (c d : Cls) :
    (m.set c (rotated (m.get c))).get d = (l.get d).rotate ((v + Pi.single c 1 : Cls → Nat) d) := by
  rw [ClassMap.get_set]
  split
  · rename_i same
    subst same
    rw [rotated_eq_rotate, before, List.rotate_rotate, add_single_self]
  · rename_i other
    rw [before, add_single_of_ne (Ne.symm other)]

/-- Each visit rotates its list once (R93). -/
theorem State.Visits.lists {s t : State} {v : Cls → Nat} (visits : s.Visits v t) (c : Cls) :
    t.lists.get c = (s.lists.get c).rotate (v c) := by
  induction visits generalizing c with
  | start => simp
  | more _ visit ih => exact visit.lists ▸ get_set_rotated ih _ c

/-- Visits that grant nothing touch records and lists only. -/
theorem State.Visits.frame {s t : State} {v : Cls → Nat} (visits : s.Visits v t) :
    UnchangedExcept [.records, .lists] s t := by
  induction visits with
  | start => exact .refl _ s
  | more _ visit ih =>
    refine ih.chain ?_
    cases visit <;> exact .of_parts fun p => by cases p <;> simp [Part.Same]

theorem State.toppedUp_balance (s : State) (r : Record) :
    s.toppedUp r = { r with balance := (s.toppedUp r).balance } := by
  rw [State.toppedUp]
  split <;> rfl

theorem State.PlainVisit.record {s t : State} {c : Cls} (visit : s.PlainVisit c t) {h : Nat} {r : Record}
    (own : s.record h = some r) : ∃ b, t.record h = some { r with balance := b } := by
  cases visit with
  | pass => exact ⟨r.balance, own⟩
  | @topUp k rest q head held =>
    by_cases here : h = k
    · subst here
      cases held.symm.trans own
      exact ⟨_, (State.record_putRecord_self own _).trans (congrArg some (s.toppedUp_balance r))⟩
    · exact ⟨r.balance, (State.record_putRecord_other here _).trans own⟩

theorem State.PlainVisit.record_none {s t : State} {c : Cls} (visit : s.PlainVisit c t) {h : Nat}
    (free : s.record h = none) : t.record h = none := by
  cases visit with
  | pass => exact free
  | @topUp k rest q head held =>
    have other : h ≠ k := fun same => by cases free.symm.trans (same ▸ held)
    exact (State.record_putRecord_other other _).trans free

/-- Visits that grant nothing change nothing of a record but its balance. -/
theorem State.Visits.record {s t : State} {v : Cls → Nat} (visits : s.Visits v t) {h : Nat} {r : Record}
    (own : s.record h = some r) : ∃ b, t.record h = some { r with balance := b } := by
  induction visits with
  | start => exact ⟨r.balance, own⟩
  | more _ visit ih =>
    obtain ⟨_, mid⟩ := ih
    obtain ⟨b, last⟩ := visit.record mid
    exact ⟨b, last⟩

theorem State.Visits.record_none {s t : State} {v : Cls → Nat} (visits : s.Visits v t) {h : Nat}
    (free : s.record h = none) : t.record h = none := by
  induction visits with
  | start => exact free
  | more _ visit ih => exact visit.record_none ih

/-! ### The visits of a turn and of the class order -/

/-- A turn makes as many visits as it may, or as many as come to a grant (R103, R104). -/
theorem State.turn_outcome {s : State} {rd : Readings} {offered : Nat} {c : Cls} {n : Nat} :
    ∀ {v : Cls → Nat} {t : State}, s.Visits v t → (t.lists.get c = [] → n = 0) →
      s.TurnOutcome rd offered c v n (State.turn rd offered c n t) := by
  induction n with
  | zero =>
    intro v t visits _
    refine .through ?_
    rwa [Pi.single_zero, add_zero]
  | succ n ih =>
    intro v t visits empty
    have some_head : t.lists.get c ≠ [] := fun nil => by cases empty nil
    rcases State.turn_succ some_head n with ⟨u, visit, same⟩ | ⟨u, a, grant, same⟩
    · rw [same]
      have := ih (visits.more visit) fun nil => by
        rw [visit.lists, ClassMap.get_set, if_pos rfl, rotated_eq_rotate, List.rotate_eq_nil_iff] at nil
        exact absurd nil some_head
      have sum (m : Nat) : v + Pi.single c 1 + Pi.single c m = v + Pi.single c (m + 1) := by
        rw [add_assoc, ← Pi.single_add, Nat.add_comm]
      cases outcome : State.turn rd offered c n u with
      | mk state made answer =>
      rw [outcome] at this
      cases this with
      | through visits => exact .through (sum n ▸ visits)
      | granted within visits grant =>
        exact .granted (Nat.succ_lt_succ within) (sum _ ▸ visits) grant
    · rw [same]
      exact .granted (m := 0) (Nat.succ_pos n) (by rwa [Pi.single_zero, add_zero]) grant

/-- Behind the turns of `before`, the turns of these classes end without a grant (R103, R107). -/
def FullTurns (s : State) (v : Cls → Nat) (before order : List Cls) : Prop :=
  ∀ front c back, order = front ++ c :: back → v c = fullTurn s v (before ++ front) c

theorem FullTurns.nil {s : State} {v : Cls → Nat} {before : List Cls} : FullTurns s v before [] :=
  fun front c back split => by cases front <;> cases split

theorem FullTurns.cons {s : State} {v : Cls → Nat} {before order : List Cls} {c : Cls}
    (first : v c = fullTurn s v before c) (rest : FullTurns s v (before ++ [c]) order) :
    FullTurns s v before (c :: order) := fun front d back split => by
  cases front with
  | nil =>
    cases split
    rwa [List.append_nil]
  | cons x front =>
    cases split
    have := rest front d back rfl
    rwa [List.append_assoc] at this

theorem fullTurn_congr {s : State} {v w : Cls → Nat} {before : List Cls}
    (same : ∀ d ∈ before, v d = w d) (c : Cls) : fullTurn s v before c = fullTurn s w before c := by
  rw [fullTurn, fullTurn, List.map_congr_left same]

/-- What the turns of the classes `order` come to, behind the turns of `before` with the visits `v`. -/
inductive State.WalkOutcome (s : State) (rd : Readings) (offered : Nat) (v : Cls → Nat)
    (before order : List Cls) : Turn → Prop
  | through {w : Cls → Nat} {u : State} (kept : ∀ d, d ∉ order → w d = v d)
      (turns : FullTurns s w before order) (visits : s.Visits w u) :
      s.WalkOutcome rd offered v before order ⟨u, ((before ++ order).map w).sum, none⟩
  | granted {front back : List Cls} {c : Cls} {w : Cls → Nat} {u t : State} {a : MediumAnswer} {n : Nat}
      (split : order = front ++ c :: back) (kept : ∀ d, d ∉ front → d ≠ c → w d = v d)
      (turns : FullTurns s w before front) (within : w c < fullTurn s w (before ++ front) c)
      (visits : s.Visits w u) (grant : u.GrantVisit rd offered c t a) :
      s.WalkOutcome rd offered v before order ⟨t, n, some a⟩

/-- A turn that ends without a grant, and then the turns behind it. -/
theorem State.WalkOutcome.cons {s : State} {rd : Readings} {offered : Nat} {v : Cls → Nat}
    {before order : List Cls} {c : Cls} {result : Turn}
    (nodup : (before ++ c :: order).Nodup) (fresh : v c = 0)
    (rest : s.WalkOutcome rd offered (v + Pi.single c (fullTurn s v before c)) (before ++ [c]) order result) :
    s.WalkOutcome rd offered v before (c :: order) result := by
  obtain ⟨-, nodup, apart⟩ := List.nodup_append.1 nodup
  have once : c ∉ order := (List.nodup_cons.1 nodup).1
  have first {w : Cls → Nat}
      (kept : ∀ d, d ∉ order → w d = (v + Pi.single c (fullTurn s v before c) : Cls → Nat) d) :
      w c = fullTurn s w before c := by
    rw [kept c once, add_single_self, fresh, Nat.zero_add]
    refine fullTurn_congr (fun d mem => ?_) c
    have out : d ∉ order := fun later => apart d mem d (List.mem_cons_of_mem _ later) rfl
    rw [kept d out, add_single_of_ne (apart d mem c List.mem_cons_self)]
  cases rest with
  | through kept turns visits =>
    rw [← List.append_cons]
    exact .through (fun d out => (kept d (List.not_mem_of_not_mem_cons out)).trans
      (add_single_of_ne (List.ne_of_not_mem_cons out) _)) (.cons (first kept) turns) visits
  | @granted front back d w _ _ _ _ split kept turns within visits grant =>
    refine .granted (front := c :: front) (congrArg (c :: ·) split) (fun x out ne => ?_)
      (.cons (first fun x out => ?_) turns) ?_ visits grant
    · exact (kept x (List.not_mem_of_not_mem_cons out) ne).trans
        (add_single_of_ne (List.ne_of_not_mem_cons out) _)
    · rw [split, List.mem_append, List.mem_cons, not_or, not_or] at out
      exact kept x out.1 out.2.1
    · rwa [← List.append_cons] at within

/-- The turns of the class order, one behind another (R103, R107). -/
theorem State.walk_outcome {s : State} {rd : Readings} {offered : Nat} (order : List Cls) :
    ∀ {before : List Cls} {v : Cls → Nat} {t : State}, (before ++ order).Nodup →
      (∀ d, d ∉ before → v d = 0) → s.Visits v t →
      s.WalkOutcome rd offered v before order (State.walk rd offered order (before.map v).sum t) := by
  induction order with
  | nil =>
    intro before v t _ _ visits
    have done := State.WalkOutcome.through (rd := rd) (offered := offered) (v := v) (before := before)
      (fun _ _ => rfl) .nil visits
    rwa [List.append_nil] at done
  | cons c order ih =>
    intro before v t nodup fresh visits
    have new : c ∉ before := fun mem =>
      (List.nodup_append.1 nodup).2.2 c mem c List.mem_cons_self rfl
    have length : (t.lists.get c).length = (s.lists.get c).length := by
      rw [visits.lists, List.length_rotate]
    have limit : min (2 * (t.lists.get c).length) (Config.visitBudget - (before.map v).sum) =
        fullTurn s v before c := by rw [length]; rfl
    have turned : s.TurnOutcome rd offered c v (fullTurn s v before c)
        (State.turn rd offered c (fullTurn s v before c) t) :=
      State.turn_outcome visits fun empty => by rw [← limit, empty]; exact Nat.zero_min _
    have same (n : Nat) : ∀ d ∈ before, (v + Pi.single c n : Cls → Nat) d = v d := fun d mem =>
      add_single_of_ne (ne_of_mem_of_not_mem mem new) n
    have here (n : Nat) : (v + Pi.single c n : Cls → Nat) c = n := by
      rw [add_single_self, fresh c new, Nat.zero_add]
    rw [State.walk, limit]
    cases outcome : State.turn rd offered c (fullTurn s v before c) t with
    | mk u made answer =>
    rw [outcome] at turned
    cases turned with
    | granted within visits grant =>
      refine .granted (front := []) rfl (fun d _ other => add_single_of_ne other _) .nil ?_ visits grant
      rwa [List.append_nil, fullTurn_congr (same _), here]
    | through visits =>
      have sum : (before.map v).sum + fullTurn s v before c =
          ((before ++ [c]).map (v + Pi.single c (fullTurn s v before c))).sum := by
        rw [List.map_append, List.sum_append, List.map_congr_left (same _), List.map_singleton,
          List.sum_singleton, here]
      simp only [sum]
      refine .cons nodup (fresh c new) (ih (by rwa [List.append_assoc]) (fun d out => ?_) visits)
      rw [List.mem_append, List.mem_singleton, not_or] at out
      rw [add_single_of_ne out.2, fresh d out.1]

/-! ### What the visits leave of the accounts -/

theorem visitsTo_succ (l : List Nat) (n h : Nat) :
    visitsTo l (n + 1) h = visitsTo l n h + if l[n % l.length]? = some h then 1 else 0 := by
  rw [visitsTo, visitsTo, List.range_succ, List.countP_append, List.countP_singleton]
  simp

/-- The head of a list after `n` rotations. -/
theorem getElem?_of_rotate {l rest : List Nat} {n h : Nat} (head : l.rotate n = h :: rest) :
    l[n % l.length]? = some h := by
  have pos : 0 < l.length := by rw [← List.length_rotate l n, head]; exact Nat.succ_pos _
  have first := List.getElem?_rotate (n := n) pos
  rw [head, Nat.zero_add] at first
  exact first.symm

/-- One more visit, to the head of the list of a class, is one more visit to that record alone. -/
theorem visitsTo_next {m : ClassMap (List Nat)} {v : Cls → Nat} {c : Cls} {h : Nat} {rest : List Nat}
    (head : (m.get c).rotate (v c) = h :: rest) (d : Cls) (k : Nat) :
    visitsTo (m.get d) ((v + Pi.single c 1 : Cls → Nat) d) k =
      visitsTo (m.get d) (v d) k + if d = c ∧ k = h then 1 else 0 := by
  by_cases own : d = c
  · subst own
    rw [add_single_self, visitsTo_succ, getElem?_of_rotate head]
    grind
  · rw [add_single_of_ne own, if_neg fun both => own both.1, Nat.add_zero]

/-- The balance `b` of a record `r` after `n` visits, the last of them granting where `last` says so: at its
ticket cap as it was (R105), else topped up at each visit that found it 0 or below (R81), as did every visit
but the granting one. -/
structure BalanceAfter (s : State) (r : Record) (n : Nat) (last : Prop) (b : Int) : Prop where
  capped : (s.classSettings r.cls).ticketCap ≤ r.held → b = r.balance
  toppedUp : ∀ k e, r.held < (s.classSettings r.cls).ticketCap → s.settings.tierOf r.rate = some (k, e) →
    b = (visitedBalance (e.quantum * r.weight) (s.classSettings r.cls).balanceCap)^[n] r.balance ∧
      ∀ j, (j + 1 < n ∨ (j + 1 = n ∧ ¬ last)) →
        (visitedBalance (e.quantum * r.weight) (s.classSettings r.cls).balanceCap)^[j] r.balance ≤ 0

section
variable {s : State} {r : Record} {n : Nat} {b : Int}

theorem BalanceAfter.unvisited (last : Prop) : BalanceAfter s r 0 last r.balance :=
  ⟨fun _ => rfl, fun _ _ _ _ => ⟨rfl, fun j small => by omega⟩⟩

/-- Of a granting visit less is asked. -/
theorem BalanceAfter.weaken {last : Prop} (after : BalanceAfter s r n last b) (plain : ¬ last)
    (other : Prop) : BalanceAfter s r n other b :=
  ⟨after.capped, fun k e room tier => ⟨(after.toppedUp k e room tier).1, fun j small =>
    (after.toppedUp k e room tier).2 j (small.imp_right fun ⟨eq, _⟩ => ⟨eq, plain⟩)⟩⟩

theorem BalanceAfter.passed (after : BalanceAfter s r n False b) (last : Prop)
    (full : (s.classSettings r.cls).ticketCap ≤ r.held) : BalanceAfter s r (n + 1) last b :=
  ⟨after.capped, fun _ _ room _ => absurd full (Nat.not_le.2 room)⟩

theorem BalanceAfter.visited {k : Nat} {e : TierEntry} (after : BalanceAfter s r n False b) {last : Prop}
    (room : r.held < (s.classSettings r.cls).ticketCap) (tier : s.settings.tierOf r.rate = some (k, e))
    (low : ¬ last → b ≤ 0) : BalanceAfter s r (n + 1) last
      (visitedBalance (e.quantum * r.weight) (s.classSettings r.cls).balanceCap b) := by
  refine ⟨fun full => absurd full (Nat.not_le.2 room), fun i f _ same => ?_⟩
  cases tier.symm.trans same
  obtain ⟨now, all⟩ := after.toppedUp k e room tier
  refine ⟨by rw [Function.iterate_succ_apply', ← now], fun j small => ?_⟩
  rcases Nat.lt_trichotomy j n with lt | rfl | gt
  · exact all j ((Nat.lt_or_eq_of_le lt).imp_right (⟨·, id⟩))
  · rw [← now]
    exact low (small.resolve_left (Nat.lt_irrefl _)).2
  · omega

end

/-- The balances that the visits `v` leave, the last of them a grant to `granted` where there is one. -/
def State.Accounted (s t : State) (v : Cls → Nat) (granted : Option Nat) : Prop :=
  ∀ h r u, s.record h = some r → t.record h = some u →
    BalanceAfter s r (visitsTo (s.lists.get r.cls) (v r.cls) h) (granted = some h) u.balance

theorem State.Accounted.visited {s t : State} {v : Cls → Nat} {granted : Option Nat}
    (balances : s.Accounted t v granted) (rotated : ∀ c, t.lists.get c = (s.lists.get c).rotate (v c)) :
    Visited s t v granted :=
  ⟨rotated, fun h r u own after => (balances h r u own after).capped,
    fun h r u k e own after => (balances h r u own after).toppedUp k e⟩

/-- One more visit, to the head of the list of a class. -/
theorem State.Accounted.next {s t u : State} {v : Cls → Nat} {c : Cls} {h : Nat} {rest : List Nat}
    {q p : Record} {granted : Option Nat} (balances : s.Accounted t v none)
    (head : (s.lists.get c).rotate (v c) = h :: rest) (cls : ∀ r, s.record h = some r → r.cls = c)
    (own : t.record h = some q) (one : OneRecord t u h (some p))
    (self : ∀ r n, s.record h = some r → BalanceAfter s r n False q.balance →
      BalanceAfter s r (n + 1) (granted = some h) p.balance) :
    s.Accounted u (v + Pi.single c 1) granted := fun k r x was now => by
  rw [visitsTo_next head]
  by_cases here : k = h
  · subst here
    cases one.own.symm.trans now
    rw [if_pos ⟨cls r was, rfl⟩]
    exact self r _ was ((balances k r q was own).weaken nofun False)
  · rw [if_neg fun both => here both.2]
    exact (balances k r x was ((one.others k here).symm.trans now)).weaken nofun _

/-- The record at the head of a list, in the state before the visits too (R91). -/
theorem State.Visits.head_record {s t : State} {v : Cls → Nat} {c : Cls} {h : Nat} {rest : List Nat}
    (visits : s.Visits v t) (law : s.ListLaw) (head : t.lists.get c = h :: rest) :
    ∃ r b, s.record h = some r ∧ r.cls = c ∧ t.record h = some { r with balance := b } := by
  have mem : h ∈ s.lists.get c := by
    rw [← List.mem_rotate (n := v c), ← visits.lists, head]
    exact List.mem_cons_self
  obtain ⟨r, own, cls, -⟩ := (law.exact h c).1 mem
  obtain ⟨b, now⟩ := visits.record own
  exact ⟨r, b, own, cls, now⟩

theorem State.toppedUp_of_tier {s : State} {r : Record} {k : Nat} {e : TierEntry}
    (tier : s.settings.tierOf r.rate = some (k, e)) (low : r.balance ≤ 0) :
    (s.toppedUp r).balance =
      visitedBalance (e.quantum * r.weight) (s.classSettings r.cls).balanceCap r.balance := by
  simp [State.toppedUp, tier, visitedBalance, low]

section
variable {s : State} (law : s.ListLaw) (tiers : s.settings.TierLaw)
include law tiers

/-- What visits that grant nothing leave of the balances, while there are tickets (R81, R104, R105). -/
theorem State.Visits.accounted {v : Cls → Nat} {t : State} (visits : s.Visits v t) (pool : s.pool ≠ []) :
    s.Accounted t v none := by
  induction visits with
  | start =>
    intro h r u own same
    cases own.symm.trans same
    exact .unvisited _
  | @more v t _ c before visit ih =>
    have settings := before.frame.settings
    have classes (d : Cls) := State.classSettings_congr settings d
    cases visit with
    | @pass h rest head barred =>
      obtain ⟨r, b, own, cls, now⟩ := before.head_record law head
      refine ih.next (before.lists c ▸ head) (fun q same => ?_) now ⟨now, fun _ _ => rfl⟩
        fun q n same after => ?_ <;> cases own.symm.trans same
      · exact cls
      · rcases barred _ now with full | empty | untiered
        · exact after.passed _ (by rwa [classes] at full)
        · exact absurd (before.frame.pool.symm.trans empty) pool
        · have some_tier := tiers.tierOf_isSome r.rate
          rw [settings] at untiered
          cases untiered ▸ some_tier
    | @topUp h rest q head now room low =>
      obtain ⟨r, b, own, cls, was⟩ := before.head_record law head
      cases was.symm.trans now
      obtain ⟨⟨k, e⟩, tier⟩ := Option.isSome_iff_exists.1 (tiers.tierOf_isSome r.rate)
      refine ih.next (before.lists c ▸ head) (fun q same => ?_) now
        ((OneRecord.putRecord now _).of_records rfl) fun q n same after => ?_ <;> cases own.symm.trans same
      · exact cls
      · rw [State.toppedUp_of_tier (settings ▸ tier) low, classes]
        exact after.visited (by rwa [classes] at room) tier fun _ => low

/-- What the visits of an OPPORTUNITY that grants leave of the balances: the granting visit finds a balance
above 0 and leaves it (R104). -/
theorem State.GrantVisit.accounted {v : Cls → Nat} {t u : State} {rd : Readings} {offered : Nat} {c : Cls}
    {a : MediumAnswer} (grant : t.GrantVisit rd offered c u a) (visits : s.Visits v t) (pool : s.pool ≠ []) :
    ∃ n q h address limit cap, a = .grant n q h address limit cap ∧
      (s.lists.get c)[v c % (s.lists.get c).length]? = some h ∧
      s.Accounted u (v + Pi.single c 1) (some h) := by
  cases grant with
  | @issue h n k rest free q e head now room rich =>
    obtain ⟨r, b, own, cls, was⟩ := visits.head_record law head
    cases was.symm.trans now
    obtain ⟨⟨k, e⟩, tier⟩ := Option.isSome_iff_exists.1 (tiers.tierOf_isSome r.rate)
    have turned := visits.lists c ▸ head
    refine ⟨_, _, h, _, _, _, rfl, getElem?_of_rotate turned,
      (visits.accounted law tiers pool).next turned (fun q same => ?_) now
        ((OneRecord.issueTo now _).of_records rfl) fun q n same after => ?_⟩ <;> cases own.symm.trans same
    · exact cls
    · have kept : visitedBalance (e.quantum * r.weight) (s.classSettings r.cls).balanceCap b = b :=
        if_neg (Int.not_le.2 rich)
      rw [State.classSettings_congr visits.frame.settings] at room
      exact kept ▸ after.visited room tier fun plain => absurd rfl plain

end

/-! ### What a grant leaves -/

section
variable {s t : State} {rd : Readings} {offered : Nat} {c : Cls} {a : MediumAnswer}
  (grant : s.GrantVisit rd offered c t a)
include grant

theorem State.GrantVisit.lists : t.lists = s.lists.set c (rotated (s.lists.get c)) := by
  cases grant
  rfl

/-- A grant is to one record, of which tickets held and the grant count change (R109). -/
theorem State.GrantVisit.oneRecord : ∃ n q h address limit cap r,
    a = .grant n q h address limit cap ∧ s.record h = some r ∧ OneRecord s t h (some r.granted) := by
  cases grant with
  | issue head own => exact ⟨_, _, _, _, _, _, _, rfl, own, (OneRecord.issueTo own _).of_records rfl⟩

end

/-! ### OPPORTUNITY (O21) -/

theorem State.classOrder_nodup (s : State) (rd : Readings) : (s.classOrder rd).Nodup := by
  rw [State.classOrder]
  cases s.podiumCapped rd <;> cases rd.crowded <;> cases s.promoted rd <;> decide

theorem State.serve_frame (s : State) (offered : Nat) :
    UnchangedExcept [.records, .lists, .skip, .tickets, .pool] s (s.serve offered).1 := by
  rw [State.serve]
  split
  · exact .refl _ s
  · split
    · exact .refl _ s
    · exact State.walk_frame _ _ _ _ s

theorem execOpportunity_ready {s : State} {tag : BitVec 4} {offered : Nat}
    (ready : s.MediumReady tag (.opportunity offered)) :
    exec .opportunity s = .next ((s.serve offered).1.endMedium tag (s.serve offered).2) :=
  State.inMediumTransaction_ready ready _

/-- An answer that is no GRANT. -/
def MediumAnswer.Grantless (a : MediumAnswer) : Prop :=
  ∀ n q h address limit cap, a ≠ .grant n q h address limit cap

section
variable (s : State) (offered : Nat)

/-- Past the checks of Table 5-2 the class order is walked (R95, R96). -/
theorem State.serve_open (hold : s.gov.hold = 0) (pool : s.pool ≠ []) :
    ∃ result, s.WalkOutcome s.readings offered 0 [] (s.classOrder s.readings) result ∧
      s.serve offered = (result.state, result.finalAnswer) :=
  ⟨_, State.walk_outcome (before := []) _ (s.classOrder_nodup _) (fun _ _ => rfl) .start,
    by rw [State.serve, if_neg (by omega), if_neg pool]; rfl⟩

/-- An OPPORTUNITY makes visits that grant nothing, and behind them at most one that grants. -/
theorem State.serve_visits :
    (∃ v, s.Visits v (s.serve offered).1 ∧ (s.serve offered).2.Grantless) ∨
    ∃ v u c, s.Visits v u ∧ u.GrantVisit s.readings offered c (s.serve offered).1 (s.serve offered).2 := by
  by_cases held : 0 < s.gov.hold
  · rw [State.serve, if_pos held]
    exact .inl ⟨0, .start, nofun⟩
  by_cases pool : s.pool = []
  · rw [State.serve, if_neg held, if_pos pool]
    exact .inl ⟨0, .start, nofun⟩
  obtain ⟨result, outcome, same⟩ := s.serve_open offered (by omega) pool
  rw [same]
  cases outcome with
  | through kept turns visits =>
    refine .inl ⟨_, visits, fun n q h address limit cap => ?_⟩
    simp only [Turn.finalAnswer]
    split <;> exact nofun
  | granted split kept turns within visits grant => exact .inr ⟨_, _, _, visits, grant⟩

/-- A FREE record stays FREE. -/
theorem State.serve_record_none {h : Nat} (free : s.record h = none) :
    (s.serve offered).1.record h = none := by
  rcases s.serve_visits offered with ⟨v, visits, -⟩ | ⟨v, u, c, visits, grant⟩
  · exact visits.record_none free
  · obtain ⟨_, _, k, _, _, _, q, -, own, one⟩ := grant.oneRecord
    have still := visits.record_none free
    have other : h ≠ k := fun same => by cases still.symm.trans (same ▸ own)
    exact (one.others h other).trans still

/-- Of a record only the balance, tickets held and the grant count change. -/
theorem State.serve_record {h : Nat} {r : Record} (own : s.record h = some r) :
    ∃ u, (s.serve offered).1.record h = some u ∧
      u = { r with balance := u.balance, held := u.held, grantCount := u.grantCount } := by
  rcases s.serve_visits offered with ⟨v, visits, -⟩ | ⟨v, u, c, visits, grant⟩
  · obtain ⟨b, now⟩ := visits.record own
    exact ⟨_, now, rfl⟩
  · obtain ⟨b, mid⟩ := visits.record own
    obtain ⟨_, _, k, _, _, _, q, -, head, one⟩ := grant.oneRecord
    by_cases here : h = k
    · subst here
      cases head.symm.trans mid
      exact ⟨_, one.own, rfl⟩
    · exact ⟨_, (one.others h here).trans mid, rfl⟩

/-- Without a grant the tickets, the pool, the skip counter, tickets held and grant counts stay. -/
theorem State.serve_grantless (grantless : (s.serve offered).2.Grantless) :
    let t := (s.serve offered).1
    t.tickets = s.tickets ∧ t.pool = s.pool ∧ t.skip = s.skip ∧
      ∀ h r u, s.record h = some r → t.record h = some u → u.held = r.held ∧ u.grantCount = r.grantCount := by
  rcases s.serve_visits offered with ⟨v, visits, -⟩ | ⟨v, u, c, visits, grant⟩
  · refine ⟨visits.frame.tickets, visits.frame.pool, visits.frame.skip, fun h r u own now => ?_⟩
    obtain ⟨b, same⟩ := visits.record own
    cases now.symm.trans same
    exact ⟨rfl, rfl⟩
  · obtain ⟨n, q, h, address, limit, cap, _, same, -⟩ := grant.oneRecord
    exact absurd same (grantless n q h address limit cap)

/-- A grant changes tickets held and the grant count of the granted record only. -/
theorem State.serve_others {n : Nat} {q : BitVec 8} {h : Nat} {address : Address} {limit cap : Nat}
    (answer : (s.serve offered).2 = .grant n q h address limit cap) {k : Nat} {r u : Record} (other : k ≠ h)
    (own : s.record k = some r) (now : (s.serve offered).1.record k = some u) :
    u.held = r.held ∧ u.grantCount = r.grantCount := by
  rcases s.serve_visits offered with ⟨v, -, grantless⟩ | ⟨v, t, c, visits, grant⟩
  · exact absurd answer (grantless n q h address limit cap)
  · obtain ⟨_, _, _, _, _, _, _, same, -, one⟩ := grant.oneRecord
    cases answer.symm.trans same
    obtain ⟨b, mid⟩ := visits.record own
    cases now.symm.trans ((one.others k other).trans mid)
    exact ⟨rfl, rfl⟩

end

/-- The numbers of visits where the turn of a class ends in a grant: full turns before it, none behind it
(R103, R107). -/
theorem visits_of_granted {s : State} {w : Cls → Nat} {front back : List Cls} {c : Cls}
    (nodup : (front ++ c :: back).Nodup) (kept : ∀ d, d ∉ front → d ≠ c → w d = 0)
    (turns : FullTurns s w [] front) (within : w c < fullTurn s w front c) :
    let v : Cls → Nat := w + Pi.single c 1
    FullTurns s v [] front ∧ v c ≤ fullTurn s v front c ∧ ∀ d, d ∉ front → d ≠ c → v d = 0 := by
  have new : c ∉ front := fun mem => (List.nodup_append.1 nodup).2.2 c mem c List.mem_cons_self rfl
  have same : ∀ d ∈ front, (w + Pi.single c 1 : Cls → Nat) d = w d := fun d mem =>
    add_single_of_ne (ne_of_mem_of_not_mem mem new) 1
  refine ⟨fun before d after split => ?_, ?_, fun d out other => ?_⟩
  · rw [same d (by simp [split]), turns before d after split]
    exact fullTurn_congr (fun x mem => (same x (by simp_all)).symm) d
  · rw [add_single_self, fullTurn_congr same]
    exact within
  · rw [add_single_of_ne other, kept d out other]

theorem Visited.congr {s t u : State} {v : Cls → Nat} {granted : Option Nat} (visited : Visited s t v granted)
    (lists : u.lists = t.lists) (records : u.records = t.records) : Visited s u v granted := by
  obtain ⟨rotated, capped, toppedUp⟩ := visited
  simp only [← State.record_congr records] at capped toppedUp
  exact ⟨lists ▸ rotated, capped, toppedUp⟩

/-- Settles O21: the visits are a sequence of plain ones with at most one grant behind them, and each class
of the order has its full turn before the grant. -/
theorem opportunityFrame : Obligations.OpportunityFrame := by
  intro s tag offered ready
  have record (h : Nat) := State.record_congr
    (State.endMedium_records (s.serve offered).1 tag (s.serve offered).2) h
  refine ⟨_, _, execOpportunity_ready ready, .of_frame (s.serve_frame offered) _ _, fun h free => ?_,
    fun h r own => ?_, fun grantless => ?_, fun hold pool law tiers => ?_,
    fun n q h address limit cap answer k r u other own now => ?_⟩
  · exact (record h).trans (s.serve_record_none offered free)
  · rw [record]
    exact s.serve_record offered own
  · simp only [State.endMedium_tickets, State.endMedium_pool, State.endMedium_skip, record]
    exact s.serve_grantless offered grantless
  · have nodup := s.classOrder_nodup s.readings
    obtain ⟨result, outcome, served⟩ := s.serve_open offered hold pool
    rw [served]
    cases outcome with
    | @through w u kept turns visits =>
      refine ⟨w, kept, fun _ => ⟨?_, turns, rfl⟩, fun n q h address limit cap answer => ?_⟩
      · exact ((visits.accounted law tiers pool).visited visits.lists).congr (by simp) (by simp)
      · simp only [Turn.finalAnswer] at answer
        split at answer <;> cases answer
    | @granted front back c w u t a _ split kept turns within visits grant =>
      obtain ⟨n, q, h, address, limit, cap, rfl, head, balances⟩ := grant.accounted law tiers visits pool
      rw [split] at nodup ⊢
      obtain ⟨before, room, behind⟩ := visits_of_granted nodup kept turns within
      refine ⟨w + Pi.single c 1, fun d out => ?_, fun grantless => ?_, fun _ _ _ _ _ _ answer => ?_⟩
      · rw [List.mem_append, List.mem_cons, not_or, not_or] at out
        exact behind d out.1 out.2.1
      · exact absurd rfl (grantless n q h address limit cap)
      · cases answer
        refine ⟨?_, front, c, back, rfl, before, ?_, room, ?_, fun d mem => ?_⟩
        · refine (balances.visited fun d => ?_).congr (by simp) (by simp)
          rw [grant.lists]
          exact get_set_rotated visits.lists c d
        · rw [add_single_self]
          exact Nat.le_add_left 1 _
        · rw [add_single_self, Nat.add_sub_cancel]
          exact head
        · obtain ⟨-, rest, apart⟩ := List.nodup_append.1 nodup
          exact behind d (fun front => apart d front d (List.mem_cons_of_mem c mem) rfl)
            (ne_of_mem_of_not_mem mem (List.nodup_cons.1 rest).1)
  · rw [record] at now
    exact s.serve_others offered answer other own now

end Sys2Proof.Machine
end

section
/-! PROOF. The Grant Scheduler: the checks of Table 5-2, the class order, and the law of a grant (O18, O19,
O20, O22). -/

namespace Sys2Proof.Machine

/-! ### The checks of Table 5-2 (O18) -/

section
variable {s : State}

theorem State.serve_of_hold (hold : 0 < s.gov.hold) (offered : Nat) :
    s.serve offered = (s, .hold s.gov.hold) := if_pos hold

theorem State.serve_of_empty (hold : s.gov.hold = 0) (pool : s.pool = []) (offered : Nat) :
    s.serve offered = (s, .noTicket) := by
  rw [State.serve, if_neg (by omega), if_pos pool]

end

/-- Settles O18: the two checks stand before the visits, in this order. -/
theorem opportunityHoldOrNoTicket : Obligations.OpportunityHoldOrNoTicket := by
  refine fun s tag offered ready => ⟨fun hold => ?_, fun hold pool => ?_⟩
  · rw [execOpportunity_ready ready, State.serve_of_hold hold]
    exact ⟨_, rfl, .of_frame (.refl _ s) _ _⟩
  · rw [execOpportunity_ready ready, State.serve_of_empty hold pool]
    exact ⟨_, rfl, .of_frame (.refl _ s) _ _⟩

/-! ### The class order (O19) -/

theorem State.readings_crowded (s : State) : s.readings.crowded = decide (s.gov.load = .crowded) :=
  beq_eq_decide ..

theorem State.podiumCapped_readings_iff (s : State) : s.podiumCapped s.readings = true ↔
    s.settings.scheduler.podiumShare < 100 ∧
      s.settings.scheduler.podiumShare * s.settings.governor.window * 10 ≤ s.gov.podiumUsage := by
  rw [State.podiumCapped, Bool.and_eq_true, decide_eq_true_eq, decide_eq_true_eq]
  rfl

/-- PODIUM and SEAT in the order that the podium cap gives them (R97). -/
def State.foreground (s : State) : List Cls :=
  if s.settings.scheduler.podiumShare < 100 ∧
      s.settings.scheduler.podiumShare * s.settings.governor.window * 10 ≤ s.gov.podiumUsage
    then [.seat, .podium] else [.podium, .seat]

theorem State.background_notMem_foreground (s : State) : Cls.background ∉ s.foreground := by
  rw [State.foreground]
  split <;> decide

section
variable {s : State}

/-- While CROWDED, BACKGROUND has no place in the class order (R99). -/
theorem State.classOrder_of_crowded (load : s.gov.load = .crowded) :
    s.classOrder s.readings = s.foreground := by
  simp only [State.classOrder, s.readings_crowded, load, s.podiumCapped_readings_iff]
  rfl

/-- While CALM, BACKGROUND stands last, or first when promoted (R97, R98). -/
theorem State.classOrder_of_calm (load : s.gov.load = .calm) :
    s.classOrder s.readings =
      if s.settings.scheduler.backgroundInterval ≤ s.skip ∧ s.lists.background ≠ []
        then .background :: s.foreground else s.foreground ++ [.background] := by
  have calm : s.readings.crowded = false := by simp [s.readings_crowded, load]
  simp [State.classOrder, State.promoted, calm, s.podiumCapped_readings_iff, State.foreground]

end

/-- Settles O19: by the load, the promotion and the podium cap. -/
theorem classOrder : Obligations.ClassOrder := by
  refine fun s => ⟨fun load free => ?_, fun load capped => ?_, fun load promoted free => ?_,
    fun load promoted capped => ?_, fun load last free => ?_, fun load last capped => ?_⟩
  · rw [State.classOrder_of_crowded load, State.foreground, if_neg free]
  · rw [State.classOrder_of_crowded load, State.foreground, if_pos capped]
  · rw [State.classOrder_of_calm load, if_pos promoted, State.foreground, if_neg free]
  · rw [State.classOrder_of_calm load, if_pos promoted, State.foreground, if_pos capped]
  · rw [State.classOrder_of_calm load, if_neg last, State.foreground, if_neg free]
    rfl
  · rw [State.classOrder_of_calm load, if_neg last, State.foreground, if_pos capped]
    rfl

/-! ### The limit of a grant (R110) -/

section
variable (r : Record) (e : TierEntry) (offered : Nat)

theorem grantLimit_eq_leastBound (crowded : Bool) : grantLimit r e crowded offered =
    leastBound r.balance.toNat (if crowded then e.crowdedBurstCap else e.burstCap)
      [r.burstOverride, if offered = 0 then none else some offered] := by
  change boundBy (boundBy _ _) (offeredBound offered) = leastBound _ _ [_, offeredBound offered]
  cases r.burstOverride <;> cases offeredBound offered <;> rfl

theorem grantLimit_readings (s : State) : grantLimit r e s.readings.crowded offered =
    leastBound r.balance.toNat (if s.gov.load = .crowded then e.crowdedBurstCap else e.burstCap)
      [r.burstOverride, if offered = 0 then none else some offered] := by
  simp only [grantLimit_eq_leastBound, s.readings_crowded, decide_eq_true_eq]

variable {r e offered}

/-- A limit is the greatest number within all of its bounds. -/
theorem le_grantLimit {m : Nat} {crowded : Bool} : m ≤ grantLimit r e crowded offered ↔
    m ≤ r.balance.toNat ∧ m ≤ (if crowded then e.crowdedBurstCap else e.burstCap) ∧
      (∀ b, r.burstOverride = some b → m ≤ b) ∧ (offered = 0 ∨ m ≤ offered) := by
  simp only [grantLimit, le_boundBy, offeredBound, le_min_iff]
  grind

end

/-! ### What a grant leaves -/

theorem State.skipAfterGrant_eq (s : State) (c : Cls) : s.skipAfterGrant c =
    if c = .background then 0 else if s.lists.background = [] then s.skip else min 255 (s.skip + 1) := by
  simp only [State.skipAfterGrant, List.isEmpty_iff]

theorem OneTicket.issueTo (s : State) {n : Nat} (lt : n < 24) (h : Nat) (r : Record) (limit : Nat) :
    OneTicket s (s.issueTo n h r limit) n
      ⟨(s.ticket n).seq + 1, some ⟨h, limit, (s.settings.scheduler.ticketLifetime * 1000 : Nat)⟩⟩ := by
  have same (k : Nat) : (s.issueTo n h r limit).ticket k = (s.putTicket n _).ticket k :=
    State.ticket_congr rfl k
  refine ⟨?_, fun k other => ?_⟩
  · rw [same, State.ticket_putTicket, if_pos ⟨rfl, lt⟩]
  · rw [same, State.ticket_putTicket, if_neg fun both => other both.1.symm]

theorem OneTicket.from_tickets {s t u : State} {n : Nat} {x : Ticket} (one : OneTicket t u n x)
    (same : t.tickets = s.tickets) : OneTicket s u n x :=
  ⟨one.own, fun k other => (one.others k other).trans (State.ticket_congr same k)⟩

/-! ### A grant at the first visit (O20) -/

section
variable {s : State} {rd : Readings} {offered : Nat}

/-- The classes whose lists are empty have their turns without a visit (R103). -/
theorem State.walk_of_empty {front : List Cls} (empty : ∀ d ∈ front, s.lists.get d = [])
    (rest : List Cls) (made : Nat) :
    State.walk rd offered (front ++ rest) made s = State.walk rd offered rest made s := by
  induction front with
  | nil => rfl
  | cons d front ih =>
    obtain ⟨first, later⟩ := List.forall_mem_cons.1 empty
    rw [List.cons_append, State.walk, first, List.length_nil, Nat.mul_zero, Nat.zero_min]
    exact ih later

variable {n h k : Nat} {others pool : List Nat} {c : Cls} {r : Record} {e : TierEntry}
  (free : s.pool = n :: pool) (head : s.lists.get c = h :: others) (own : s.record h = some r)
  (room : r.held < (s.classSettings r.cls).ticketCap) (rich : 0 < r.balance)
  (tier : s.settings.tierOf r.rate = some (k, e))
include free head own room rich tier

/-- A visit to a record that can be granted is no plain one (R104). -/
theorem State.PlainVisit.not_grantable {u : State} : ¬ s.PlainVisit c u := by
  rintro (⟨head', barred⟩ | ⟨head', own', -, low⟩) <;> cases head.symm.trans head'
  · rcases barred r own with full | empty | untiered
    · omega
    · cases free.symm.trans empty
    · cases tier.symm.trans untiered
  · cases own.symm.trans own'
    omega

/-- The first visit of a turn grants to a head that can be granted (R104). -/
theorem State.turn_of_grantable (m : Nat) :
    State.turn rd offered c (m + 1) s =
      ⟨(s.issueTo n h r (grantLimit r e rd.crowded offered)).rotate c, 1,
        some (.grant n ((s.ticket n).seq + 1) h r.address (grantLimit r e rd.crowded offered)
          (min e.frameCap r.backlog))⟩ := by
  have some_head : s.lists.get c ≠ [] := by simp [head]
  rcases State.turn_succ (rd := rd) (offered := offered) some_head m with
    ⟨u, visit, -⟩ | ⟨u, a, grant, same⟩
  · exact absurd visit (State.PlainVisit.not_grantable free head own room rich tier)
  · rw [same]
    cases grant with
    | issue head' own' _ _ free' tier' =>
      cases head.symm.trans head'
      cases own.symm.trans own'
      cases free.symm.trans free'
      cases tier.symm.trans tier'
      rfl

/-- An OPPORTUNITY whose first record that it comes to can be granted (R103, R104, R109 to R113). -/
theorem State.serve_of_grantable {front back : List Cls} (hold : s.gov.hold = 0)
    (order : s.classOrder s.readings = front ++ c :: back) (empty : ∀ d ∈ front, s.lists.get d = []) :
    s.serve offered = ((s.issueTo n h r (grantLimit r e s.readings.crowded offered)).rotate c,
      .grant n ((s.ticket n).seq + 1) h r.address (grantLimit r e s.readings.crowded offered)
        (min e.frameCap r.backlog)) := by
  obtain ⟨m, visits⟩ : ∃ m, min (2 * (s.lists.get c).length) (Config.visitBudget - 0) = m + 1 :=
    Nat.exists_eq_add_one.2 (by simp [head, Config.visitBudget])
  rw [State.serve, if_neg (by omega), if_neg (by simp [free]), order, State.walk_of_empty empty, State.walk,
    visits, State.turn_of_grantable free head own room rich tier]
  rfl

end

/-- Settles O20: the lists in front are empty, and the first visit is the grant. -/
theorem opportunityGrantsHead : Obligations.OpportunityGrantsHead := by
  intro s tag offered n h k pool front back c others r e ready hold free lt order empty head own room rich
    tier q burst limit
  have served := State.serve_of_grantable (offered := offered) free head own room rich tier hold order empty
  rw [grantLimit_readings] at served
  refine ⟨_, execOpportunity_ready ready, ?_, ?_, fun d other => ?_, ?_, ?_, ?_, ?_⟩
  · have ends := EndsMedium.of_frame (s.serve_frame offered) tag (s.serve offered).2
    rwa [served] at ends ⊢
  all_goals rw [served]
  · simp [head, rotated]
  · simp [Ne.symm other]
  · exact (OneRecord.issueTo (t := n) own limit).of_records (State.endMedium_records _ _ _)
  · exact (OneTicket.issueTo s lt h r limit).of_tickets (State.endMedium_tickets _ _ _)
  · simp [State.issueTo, free]
  · rw [State.endMedium_skip]
    exact s.skipAfterGrant_eq r.cls

/-! ### The law of a grant (O22) -/

theorem MediumAnswered.unique {s t : State} {tag : BitVec 4} {a b : MediumAnswer}
    (one : MediumAnswered s t tag a) (other : MediumAnswered s t tag b) : a = b := by
  have same := congrArg MediumPort.answers (one.symm.trans other)
  simpa using same

theorem State.Visits.mem_lists {s t : State} {v : Cls → Nat} (visits : s.Visits v t) {h : Nat} {c : Cls} :
    h ∈ t.lists.get c ↔ h ∈ s.lists.get c := by
  rw [visits.lists, List.mem_rotate]

/-- What a grant makes of the background-skip counter is the same behind visits that grant nothing (R101). -/
theorem State.Visits.skipAfterGrant {s t : State} {v : Cls → Nat} (visits : s.Visits v t) (c : Cls) :
    t.skipAfterGrant c = s.skipAfterGrant c := by
  have empty : t.lists.background.isEmpty = s.lists.background.isEmpty := by
    rw [Bool.eq_iff_iff, List.isEmpty_iff, List.isEmpty_iff, ClassMap.background_eq_get, visits.lists,
      List.rotate_eq_nil_iff, ClassMap.background_eq_get]
  rw [State.skipAfterGrant, State.skipAfterGrant, empty, visits.frame.skip]

section
variable {s t : State} {rd : Readings} {offered n : Nat} {q : BitVec 8} {h : Nat} {address : Address}
  {limit cap : Nat} {c : Cls} (grant : s.GrantVisit rd offered c t (.grant n q h address limit cap))
include grant

/-- A grant issues the head ticket of the pool (R109). -/
theorem State.GrantVisit.pool : s.pool = n :: t.pool := by
  cases grant with
  | issue _ _ _ _ free => simp [State.issueTo, free]

theorem State.GrantVisit.seq : q = (s.ticket n).seq + 1 := by
  cases grant
  rfl

theorem State.GrantVisit.ticket (lt : n < 24) :
    OneTicket s t n ⟨q, some ⟨h, limit, (s.settings.scheduler.ticketLifetime * 1000 : Nat)⟩⟩ := by
  cases grant with
  | @issue _ _ _ _ _ r => exact (OneTicket.issueTo s lt h r _).of_tickets rfl

/-- A grant is to a record of the list that can be granted, with the fields of Table 5-5 (R104, R109 to
R113). -/
theorem State.GrantVisit.record : ∃ r k e, h ∈ s.lists.get c ∧ s.record h = some r ∧
    t.record h = some r.granted ∧ r.held < (s.classSettings r.cls).ticketCap ∧ 0 < r.balance ∧
    s.settings.tierOf r.rate = some (k, e) ∧ address = r.address ∧
    limit = grantLimit r e rd.crowded offered ∧ cap = min e.frameCap r.backlog ∧
    t.skip = s.skipAfterGrant r.cls := by
  cases grant with
  | issue head own room rich _ tier =>
    exact ⟨_, _, _, by simp [head], own, (OneRecord.issueTo own _).own, room, rich, tier, rfl, rfl, rfl, rfl⟩

end

/-- A GRANT is answered past the checks of Table 5-2 only, by a visit in the list of a class of the class
order, behind visits that grant nothing (R95, R96, R103). -/
theorem State.serve_grant {s : State} {offered n : Nat} {q : BitVec 8} {h : Nat} {address : Address}
    {limit cap : Nat} (answer : (s.serve offered).2 = .grant n q h address limit cap) :
    s.gov.hold = 0 ∧ ∃ v u c, c ∈ s.classOrder s.readings ∧ s.Visits v u ∧
      u.GrantVisit s.readings offered c (s.serve offered).1 (.grant n q h address limit cap) := by
  rcases Nat.eq_zero_or_pos s.gov.hold with hold | hold
  case inr => cases (State.serve_of_hold hold offered ▸ answer :)
  by_cases pool : s.pool = []
  · cases (State.serve_of_empty hold pool offered ▸ answer :)
  obtain ⟨result, outcome, served⟩ := s.serve_open offered hold pool
  rw [← answer, served]
  rw [served] at answer
  cases outcome with
  | through kept turns visits =>
    simp only [Turn.finalAnswer] at answer
    split at answer <;> cases answer
  | granted split kept turns within visits grant =>
    exact ⟨hold, _, _, _, by simp [split], visits, grant⟩

/-- The tier of a rate is an entry of the table (R75). -/
theorem Settings.TierLaw.tier_of_tierOf {g : Settings} (law : g.TierLaw) {rate k : Nat} {e : TierEntry}
    (tier : g.tierOf rate = some (k, e)) : g.tier k = some e :=
  ((tierOfRate g rate k e law).1 tier).1

theorem TierEntry.caps_of_inRange {e : TierEntry} (range : e.inRange = true) :
    200 ≤ e.burstCap ∧ 200 ≤ e.crowdedBurstCap ∧ 1 ≤ e.frameCap ∧ e.frameCap ≤ 64 := by
  simp only [TierEntry.inRange, Bool.and_eq_true, decide_eq_true_eq] at range
  omega

theorem Record.eligible_iff {r : Record} : r.eligible = true ↔ r.state = .active ∧ 0 < r.backlog := by
  simp [Record.eligible]

/-- The limit of a grant is at least 1 and at most the balance (R110). -/
theorem grantLimit_bounds {r : Record} {e : TierEntry} {offered : Nat} (crowded : Bool)
    (rich : 0 < r.balance) (range : e.inRange = true) (override : ∀ b, r.burstOverride = some b → 200 ≤ b)
    (long : offered = 0 ∨ 100 ≤ offered) :
    1 ≤ grantLimit r e crowded offered ∧ (grantLimit r e crowded offered : Int) ≤ r.balance := by
  obtain ⟨burst, crowdedBurst, -⟩ := TierEntry.caps_of_inRange range
  have within := (le_grantLimit.1 (Nat.le_refl (grantLimit r e crowded offered))).1
  refine ⟨le_grantLimit.2 ⟨by omega, ?_, fun b own => ?_, long.imp_right (by omega)⟩, by omega⟩
  · split <;> omega
  · exact (by decide : 1 ≤ 200).trans (override b own)

/-- Settles O22: the visits before the grant change of the record no more than its balance, and of the rest
nothing that the grant reads. -/
theorem grantLaw : Obligations.GrantLaw := by
  intro s t tag offered n q h address limit cap ready law pool tiers long override ran answered
  cases (execOpportunity_ready ready).symm.trans ran
  have answer := (EndsMedium.of_frame (s.serve_frame offered) tag _).answered.unique answered
  obtain ⟨hold, v, u, c, turn, visits, grant⟩ := State.serve_grant answer
  have frame := visits.frame
  have free : s.pool = n :: (s.serve offered).1.pool := frame.pool ▸ grant.pool
  have ticket := grant.ticket ((pool.exact n).1 (by simp [free])).1
  rw [frame.settings] at ticket
  obtain ⟨p, k, e, mem, own, now, room, rich, tier, rfl, rfl, rfl, skip⟩ := grant.record
  obtain ⟨r, was, cls, eligible⟩ := (law.exact h c).1 (visits.mem_lists.1 mem)
  obtain ⟨active, backlog⟩ := Record.eligible_iff.1 eligible
  obtain ⟨b, topped⟩ := visits.record was
  cases topped.symm.trans own
  rw [State.classSettings_congr frame.settings] at room
  rw [frame.settings] at tier
  have range := tiers.table.inRange k e (tiers.table.tier_of_tierOf tier)
  obtain ⟨-, -, frames, most⟩ := TierEntry.caps_of_inRange range
  obtain ⟨least, affordable⟩ := grantLimit_bounds s.readings.crowded rich range (override h r · was) long
  refine ⟨hold, ?_, ?_, ?_, r, _, k, e, was, (State.record_congr (State.endMedium_records _ _ _) h).trans now,
    active, backlog, rich, room, rfl, rfl, fun crowded => ?_, rfl, tier, ?_, least, affordable, rfl,
    le_min frames backlog, (min_le_left _ _).trans most, ?_⟩
  · rw [State.endMedium_pool]
    exact free
  · rw [grant.seq, State.ticket_congr frame.tickets]
  · exact (ticket.from_tickets frame.tickets).of_tickets (State.endMedium_tickets _ _ _)
  · rw [State.classOrder_of_crowded crowded] at turn
    exact cls ▸ ne_of_mem_of_not_mem turn s.background_notMem_foreground
  · exact grantLimit_readings _ e offered s
  · rw [State.endMedium_skip, skip, visits.skipAfterGrant]
    exact s.skipAfterGrant_eq r.cls

end Sys2Proof.Machine
end

section
/-! PROOF. The settings groups of the scheduler, of presence and of notices (O51). -/

namespace Sys2Proof.Machine

/-- A request that takes no transaction and changes no more than these parts ends with its answer (R179). -/
theorem AnswersDirectly.of_frame {s u : State} {parts : List Part} (frame : UnchangedExcept parts s u)
    (a : HostAnswer) (req : Part.req ∉ parts := by decide) :
    AnswersDirectly s (u.hostAnswer a) a parts where
  answered := by rw [HostAnswered, State.hostAnswer_req, frame.req req]
  frame := by
    have ends : UnchangedExcept [.req] u (u.hostAnswer a) :=
      .of_parts fun p => by cases p <;> simp [Part.Same]
    exact fun p out => (frame.trans ends) p fun mem => out (by simp at mem ⊢; tauto)

theorem Sweeper.afterPresence_eq (w : Sweeper) (period : Option Nat) :
    w.afterPresence period = ⟨(period.map (· * 1000)).getD w.periodLeft, w.pass⟩ := by
  cases period <;> rfl

section
variable {q : NoticeQueue} {count : Option Nat}

/-- A new count that the notices held reach asserts a released ATTN (R175). -/
theorem NoticeQueue.afterCount_of_reached {n : Nat} (item : count = some n) (released : q.attn = false)
    (reached : n ≤ q.queue.length) : q.afterCount count = { q with attn := true, timer := none } := by
  simp [NoticeQueue.afterCount, item, released, reached]

theorem NoticeQueue.afterCount_of_still
    (still : ∀ n, count = some n → q.attn = true ∨ q.queue.length < n) : q.afterCount count = q := by
  cases count with
  | none => rfl
  | some n =>
    refine if_neg fun both => ?_
    rw [Bool.and_eq_true, Bool.not_eq_true', decide_eq_true_eq] at both
    rcases still n rfl with asserted | short
    · exact absurd (both.1.symm.trans asserted) nofun
    · omega

end

/-- Settles O51: each request writes its own group, and what it sets off at once is the period timer's or the
Notice Queue's own. -/
theorem settingsGroups : Obligations.SettingsGroups := by
  refine ⟨fun s i ready => ⟨_, State.inHostTransaction_ready ready _, .of_frame ?_ _, ?_⟩,
    fun s i working => ⟨_, State.inHostRequest_working working _, .of_frame ?_ _, rfl,
      s.sweeper.afterPresence_eq i.passPeriod⟩,
    fun s i working => ⟨_, State.inHostRequest_working working _, .of_frame ?_ _, rfl,
      fun ⟨n, item, released, reached⟩ => NoticeQueue.afterCount_of_reached item released reached,
      NoticeQueue.afterCount_of_still⟩⟩
  · exact .of_parts fun p => by cases p <;> simp [Part.Same]
  · exact State.endHost_settings _ _
  · exact .of_parts fun p => by cases p <;> simp [Part.Same]
  · exact .of_parts fun p => by cases p <;> simp [Part.Same]

end Sys2Proof.Machine
end

section
/-! PROOF. The laws of the tickets after every step, COMPLETE answered STALE, RESYNC, and the Ticket Timer
(O57, O23, O28, O29, O30). -/

namespace Sys2Proof.Machine

/-- A frame of fewer parts is one of more. -/
theorem UnchangedExcept.mono {few more : List Part} {s t : State} (frame : UnchangedExcept few s t)
    (sub : few ⊆ more := by decide) : UnchangedExcept more s t :=
  fun p out => frame p fun mem => out (sub mem)

/-! ### The laws of the tickets (O57) -/

/-- What the count of tickets held stands on: a grant takes the head of a sound pool, below a ticket cap in
its range (R109, R119, R33). -/
structure State.TicketLaws (s : State) : Prop where
  pool : s.PoolLaw
  classSettings : s.ClassSettingsLaw
  holder : s.HolderLaw

theorem State.Move.ticketLaws {s t : State} (move : s.Move t) (laws : s.TicketLaws) : t.TicketLaws :=
  ⟨move.poolLaw laws.pool, move.classSettingsLaw laws.classSettings,
    move.holderLaw laws.pool laws.classSettings.inRange laws.holder⟩

theorem State.TicketLaws.withPending {s : State} (laws : s.TicketLaws) (rest : List Instr) :
    State.TicketLaws { s with pending := rest } :=
  ⟨laws.pool.congr rfl rfl, laws.classSettings.congr rfl rfl, laws.holder.congr rfl rfl⟩

/-- Settles O57: the free pool is kept on its own, tickets held with the pool and the ticket caps. -/
theorem stepKeepsTicketLaws : Obligations.StepKeepsTicketLaws :=
  ⟨fun _ _ law => step_keeps State.Move.poolLaw (fun law _ => law.congr rfl rfl) law,
    fun _ _ pool settings law ran =>
      (step_keeps State.Move.ticketLaws State.TicketLaws.withPending ⟨pool, settings, law⟩ ran).holder⟩

/-! ### COMPLETE answered STALE (O23) -/

theorem execComplete_ready {s : State} {tag : BitVec 4} {c : Completion}
    (ready : s.MediumReady tag (.complete c)) :
    exec .complete s = .next ((s.completed c).1.endMedium tag (s.completed c).2) :=
  State.inMediumTransaction_ready ready _

theorem State.completed_stale {s : State} {c : Completion}
    (stale : (s.ticket c.ticket).issue = none ∨ (s.ticket c.ticket).seq ≠ c.seq) :
    s.completed c = (s, .stale c.ticket (s.ticket c.ticket).seq) := by
  rw [State.completed]
  split
  · rfl
  · rename_i i issued
    exact if_neg (stale.resolve_left (by simp [issued]))

/-- Settles O23: the ticket and its sequence are judged before anything is done. -/
theorem completeStale : Obligations.CompleteStale := fun s tag c ready stale => by
  refine ⟨_, execComplete_ready ready, ?_⟩
  rw [State.completed_stale stale]
  exact .of_frame (.refl [] s) _ _

/-! ### RESYNC (O28) -/

/-- The notice that a RESYNC makes of the record at a handle, none of a living one (R138). -/
def Record.resyncNotice (h : Nat) (r : Record) : Option NoticeBody :=
  if r.living then none else some (.retired h r.address r.label r.consumed .resync)

theorem resyncNotices_eq (f : Nat → Option Record) (n i : Nat) :
    resyncNotices i ((List.range' i n).map f) =
      (List.range' i n).filterMap fun h => (f h).bind (Record.resyncNotice h) := by
  induction n generalizing i with
  | zero => rfl
  | succ n ih =>
    rw [List.range'_succ, List.map_cons, List.filterMap_cons]
    cases own : f i with
    | none => exact ih (i + 1)
    | some r =>
      cases living : r.living <;>
        simp [resyncNotices, Record.resyncNotice, Record.isRetiring, living, ih]

theorem State.resyncNotices_records (s : State) :
    resyncNotices 0 s.records.toList =
      (List.range 640).filterMap fun h => (s.record h).bind (Record.resyncNotice h) := by
  rw [s.records_toList, List.range_eq_range', resyncNotices_eq]

theorem slotAfterResync_eq (o : Option Record) :
    slotAfterResync o = o.bind fun r => if r.living then some { r with held := 0 } else none := by
  cases o with
  | none => rfl
  | some r => cases living : r.living <;> simp [slotAfterResync, Record.isRetiring, living]

theorem State.notifyAll_made (s : State) (bodies : List NoticeBody) :
    NoticesMade s (s.notifyAll bodies) bodies := by
  induction bodies generalizing s with
  | nil => rfl
  | cons b rest ih => exact ih (s.notify b)

/-- A further notice, made by a state of the same moment. -/
theorem NoticesMade.notify {s t : State} {bodies : List NoticeBody} (made : NoticesMade s t bodies)
    (b : NoticeBody) (settings : t.settings = s.settings) (time : t.time = s.time) :
    NoticesMade s (t.notify b) (bodies ++ [b]) := by
  rw [NoticesMade, State.notify_notices, made, settings, time, List.foldl_append]
  rfl

theorem DrainCause.noticeCause_eq (cause : DrainCause) :
    cause.noticeCause = if cause = .host then .host else .aged := by
  cases cause <;> rfl

theorem State.resynced_ticket (s : State) (n : Nat) : s.resynced.ticket n = ⟨(s.ticket n).seq, none⟩ := by
  rw [← s.ticket_returnAll]
  exact State.ticket_congr (by simp [State.resynced]) n

theorem State.resynced_notices (s : State) :
    NoticesMade s s.resynced
      ((List.range 640).filterMap fun h => (s.record h).bind (Record.resyncNotice h)) := by
  rw [← s.resyncNotices_records]
  exact State.notifyAll_made { s.returnAll with records := s.records.map slotAfterResync } _

theorem State.resynced_gov (s : State) : s.resynced.gov = { s.gov with hold := 0 } := by
  simp [State.resynced]

/-- The part with its Medium Engine RUNNING (R138). -/
def State.running (s : State) : State := { s with medium := { s.medium with engine := .running } }

theorem State.running_frame (s : State) : UnchangedExcept [.medium] s s.running :=
  .of_parts fun p => by cases p <;> simp [Part.Same, State.running]

/-- Of the Medium Port a RESYNC changes the engine state only (R138). -/
theorem State.resynced_running (s : State) :
    UnchangedExcept [.records, .tickets, .pool, .gov, .notices] s.running s.resynced :=
  .of_parts fun p => by cases p <;> simp [Part.Same, State.running, State.resynced]

theorem execResync_ready {s : State} {tag : BitVec 4} (ready : s.MediumReady tag .resync) :
    exec .resync s = .next (s.resynced.endMedium tag (.resynced s.issuedTickets.length)) :=
  State.inMediumTransaction_ready ready _

/-- Settles O28: the answer ends the transaction of a part whose engine is already RUNNING. -/
theorem resync : Obligations.Resync := fun s tag ready => by
  have ends := EndsMedium.of_frame s.resynced_running tag (.resynced s.issuedTickets.length)
  refine ⟨_, execResync_ready ready, ends.answered, ends.released, (s.running_frame.trans ends.frame).mono,
    fun n => ?_, ?_, fun h => ?_, ?_, ?_⟩
  · exact (State.ticket_congr (State.endMedium_tickets _ _ _) n).trans (s.resynced_ticket n)
  · exact (State.endMedium_pool _ _ _).trans s.pool_resynced
  · rw [State.record_congr (State.endMedium_records _ _ _), s.record_resynced, slotAfterResync_eq]
  · exact (State.endMedium_gov _ _ _).trans s.resynced_gov
  · exact (State.endMedium_notices _ _ _).trans s.resynced_notices

/-! ### TICKET_DUE (O29) -/

theorem isTimed_ticketDue :
    IsTimed .ticketDue State.heldStep State.deadlineLeft State.ticketDue := .of_guarded fun _ => rfl

theorem State.deadlineLeft_of_due {s : State} (due : s.SomeDue) : s.deadlineLeft = some 0 :=
  nearestDeadline_of_due (s.anyDue_iff.2 due)

/-- The nearest deadline is that of an ISSUED ticket (R130). -/
theorem issue_of_nearestDeadline {l : List Ticket} {n : Nat} (near : nearestDeadline l = some n) :
    ∃ t ∈ l, ∃ i, t.issue = some i ∧ i.left.toNat = n := by
  induction l generalizing n with
  | nil => cases near
  | cons t rest ih =>
    have later : ∀ m, nearestDeadline rest = some m →
        ∃ u ∈ t :: rest, ∃ i, u.issue = some i ∧ i.left.toNat = m := fun m hm => by
      obtain ⟨u, mem, issued⟩ := ih hm
      exact ⟨u, List.mem_cons_of_mem t mem, issued⟩
    rw [nearestDeadline] at near
    split at near
    · exact later n near
    · rename_i i issued _
      cases near
      exact ⟨t, List.mem_cons_self, i, issued, rfl⟩
    · rename_i i m issued nearest
      cases near
      rcases min_choice i.left.toNat m with first | second
      · exact ⟨t, List.mem_cons_self, i, issued, first.symm⟩
      · rw [second]
        exact later m nearest

theorem State.issue_of_deadlineLeft {s : State} {n : Nat} (left : s.deadlineLeft = some n) :
    ∃ m i, (s.ticket m).issue = some i ∧ i.left.toNat = n := by
  obtain ⟨t, mem, i, issued, eq⟩ := issue_of_nearestDeadline left
  rw [s.tickets_toList] at mem
  obtain ⟨m, -, rfl⟩ := List.mem_map.1 mem
  exact ⟨m, i, issued, eq⟩

theorem State.deadlineLeft_none {s : State} (free : ∀ n, (s.ticket n).issue = none) :
    s.deadlineLeft = none := by
  cases left : s.deadlineLeft with
  | none => rfl
  | some n =>
    obtain ⟨m, i, issued, -⟩ := State.issue_of_deadlineLeft left
    cases (free m).symm.trans issued

theorem State.deadlineLeft_nearest {s : State} {n : Nat} {i : Issue} (issued : (s.ticket n).issue = some i)
    (nearest : ∀ m j, (s.ticket m).issue = some j → i.left ≤ j.left) :
    s.deadlineLeft = some i.left.toNat := by
  obtain ⟨k, left, le⟩ := State.deadlineLeft_le issued
  obtain ⟨m, j, issued', eq⟩ := State.issue_of_deadlineLeft left
  have ge := Int.toNat_le_toNat (nearest m j issued')
  rw [State.deadlineLeft, left, le_antisymm le (eq ▸ ge)]

theorem State.ticketDue_asked {s : State} (asked : s.timerAsked = true) : s.ticketDue = s := by
  simp only [State.ticketDue, asked, if_true]

theorem State.ticketDue_asks {s : State} (quiet : s.timerAsked = false) :
    s.ticketDue = { s with timerAsked := true }.ask .ticketTimer := by
  simp only [State.ticketDue, quiet, Bool.false_eq_true, if_false]

/-- Settles O29: at its moment the command is the Timer's asking, and the moment is that of the nearest
deadline. -/
theorem ticketDue : Obligations.TicketDue := by
  refine fun s free => ⟨fun unissued => isTimed_ticketDue.exec_none free (State.deadlineLeft_none unissued),
    fun n i issued due => ?_, fun n i => State.deadlineLeft_nearest⟩
  have now := isTimed_ticketDue.exec_now free (State.deadlineLeft_of_due ⟨n, i, issued, due⟩)
  refine ⟨fun asked => ?_, fun quiet => ⟨_, now, ?_⟩⟩
  · rw [now, State.ticketDue_asked asked]
  · rw [State.ticketDue_asks quiet]
    exact ⟨State.ask_timerAsked _ _, State.ask_asked _ _,
      .of_parts fun p => by cases p <;> simp [Part.Same]⟩

/-! ### The due ticket of the earliest deadline (R131) -/

theorem earliestDue_none {l : List Ticket} (i : Nat)
    (early : ∀ t ∈ l, ∀ x, t.issue = some x → 0 < x.left) : earliestDue i l = none := by
  induction l generalizing i with
  | nil => rfl
  | cons t rest ih =>
    rw [earliestDue, ih (i + 1) fun u mem => early u (List.mem_cons_of_mem t mem)]
    cases issued : t.issue with
    | none => rfl
    | some x => exact if_neg (Int.not_le.2 (early t List.mem_cons_self x issued))

/-- A due ticket that no other precedes, by deadline and then by number, is the one found. -/
theorem earliestDue_some {l : List Ticket} {k : Nat} {x : Issue} (i : Nat)
    (issued : (l[k]?).bind Ticket.issue = some x) (due : x.left ≤ 0)
    (first : ∀ m y, (l[m]?).bind Ticket.issue = some y →
      x.left < y.left ∨ x.left = y.left ∧ k ≤ m) : earliestDue i l = some (i + k, x) := by
  induction l generalizing i k with
  | nil => cases issued
  | cons t rest ih =>
    have behind : ∀ m y, (rest[m]?).bind Ticket.issue = some y →
        x.left < y.left ∨ x.left = y.left ∧ k ≤ m + 1 := fun m => first (m + 1)
    cases k with
    | zero =>
      have here : t.issue = some x := issued
      rw [earliestDue, here]
      cases later : earliestDue (i + 1) rest with
      | none => exact if_pos due
      | some best =>
        obtain ⟨-, other⟩ := issue_of_earliestDue later
        have le : x.left ≤ best.2.left := (behind _ _ other).elim le_of_lt fun both => both.1.le
        exact if_pos ⟨due, le⟩
    | succ k =>
      have found := ih (i + 1) issued fun m y hy => (behind m y hy).imp_right fun both =>
        ⟨both.1, Nat.le_of_succ_le_succ both.2⟩
      rw [earliestDue, found, Nat.add_right_comm, Nat.add_assoc]
      cases own : t.issue with
      | none => rfl
      | some y =>
        have before : x.left < y.left := (first 0 y own).resolve_right fun both => by omega
        exact if_neg fun both => absurd before (Int.not_lt.2 both.2)

theorem State.issue_getElem?_toList (s : State) (n : Nat) :
    (s.tickets.toList[n]?).bind Ticket.issue = (s.ticket n).issue := by
  simp only [Vector.getElem?_toList, State.ticket]
  cases s.tickets[n]? <;> rfl

theorem State.expireEarliest_none {s : State}
    (early : ∀ n i, (s.ticket n).issue = some i → 0 < i.left) : s.expireEarliest = s := by
  rw [State.expireEarliest, s.tickets_toList, earliestDue_none]
  intro t mem
  obtain ⟨n, -, rfl⟩ := List.mem_map.1 mem
  exact early n

theorem State.expireEarliest_some {s : State} {n : Nat} {i : Issue} (issued : (s.ticket n).issue = some i)
    (due : i.left ≤ 0)
    (first : ∀ m j, (s.ticket m).issue = some j → i.left < j.left ∨ i.left = j.left ∧ n ≤ m) :
    s.expireEarliest = s.expire n i := by
  have found := earliestDue_some (l := s.tickets.toList) 0 ((s.issue_getElem?_toList n).trans issued) due
    fun m j hj => first m j ((s.issue_getElem?_toList m).symm.trans hj)
  rw [State.expireEarliest, found, Nat.zero_add]

/-! ### The expiry of a ticket (R131, R132) -/

/-- The effects of an expiry up to its EXPIRED notice; only the end of a drain is still to come. -/
def State.lapsed (s : State) (n : Nat) (i : Issue) : State :=
  (((s.returnTicket n).charge i.holder i.limit).updateRecord i.holder fun r =>
    { r with held := r.held - 1 }).notify (.expired i.holder (s.labelOf i.holder) n i.limit)

theorem State.expire_eq (s : State) (n : Nat) (i : Issue) :
    s.expire n i = (s.lapsed n i).endDrain i.holder := rfl

theorem State.lapsed_frame (s : State) (n : Nat) (i : Issue) :
    UnchangedExcept [.tickets, .pool, .records, .gov, .notices] s (s.lapsed n i) :=
  .of_parts fun p => by cases p <;> simp [Part.Same, State.lapsed]

theorem State.expire_frame (s : State) (n : Nat) (i : Issue) :
    UnchangedExcept [.tickets, .pool, .records, .gov, .notices] s (s.expire n i) :=
  .of_parts fun p => by cases p <;> simp [Part.Same]

theorem State.expire_tickets (s : State) (n : Nat) (i : Issue) :
    (s.expire n i).tickets = (s.returnTicket n).tickets := by
  simp [State.expire]

theorem OneTicket.returned {s : State} {n : Nat} {i : Issue} (issued : (s.ticket n).issue = some i) :
    OneTicket s (s.returnTicket n) n ⟨(s.ticket n).seq, none⟩ := by
  refine ⟨?_, fun k other => ?_⟩
  · rw [State.ticket_returnTicket, if_pos ⟨rfl, State.lt_of_issue issued⟩]
  · rw [State.ticket_returnTicket, if_neg fun both => other both.1.symm]

/-- A ticket is still due when another one was. -/
theorem OneTicket.someDue_iff {s t : State} {n : Nat} {q : BitVec 8} (one : OneTicket s t n ⟨q, none⟩) :
    t.SomeDue ↔ ∃ m j, m ≠ n ∧ (s.ticket m).issue = some j ∧ j.left ≤ 0 := by
  refine exists₂_congr fun m j => ?_
  by_cases same : m = n
  · simp [same, one.own]
  · simp [same, one.others m same]

section
variable {s : State} {i : Issue} {r : Record} (own : s.record i.holder = some r) (n : Nat)
include own

theorem OneRecord.lapse : OneRecord s (s.lapsed n i) i.holder (some (r.afterExpiry i.limit)) := by
  have returned := (s.record_returnTicket n i.holder).trans own
  have charged := OneRecord.charge returned i.limit
  have updated := charged.trans (.updateRecord charged.own fun r => { r with held := r.held - 1 })
  exact (updated.of_records (State.notify_records _ _)).from_records (s.returnTicket_records n)

theorem State.lapsed_notices : NoticesMade s (s.lapsed n i) [.expired i.holder r.label n i.limit] := by
  simp [NoticesMade, State.lapsed, State.labelOf, own]

theorem State.expire_usage : UsageCounted s (s.expire n i) i.limit r.cls := by
  have returned := (s.record_returnTicket n i.holder).trans own
  obtain ⟨-, -, counted⟩ := State.charge_some returned i.limit
  simp [UsageCounted, State.expire, counted, Governor.count]

/-- A holder that lives, or holds a further ticket, is left as the notice found it (R131). -/
theorem State.expire_keeps (stays : r.living = true ∨ 1 < r.held) :
    OneRecord s (s.expire n i) i.holder (some (r.afterExpiry i.limit)) ∧
      NoticesMade s (s.expire n i) [.expired i.holder r.label n i.limit] := by
  have lapsed := OneRecord.lapse own n
  have kept : s.expire n i = s.lapsed n i :=
    State.endDrain_stays lapsed.own (stays.imp id Nat.sub_pos_of_lt)
  exact kept ▸ ⟨lapsed, State.lapsed_notices own n⟩

/-- The last ticket of a RETIRING record ends its drain, with a RETIRED notice behind (R132). -/
theorem State.expire_frees {cause : DrainCause} (state : r.state = .retiring cause) (last : r.held = 1) :
    OneRecord s (s.expire n i) i.holder none ∧
      NoticesMade s (s.expire n i) [.expired i.holder r.label n i.limit,
        .retired i.holder r.address r.label (r.debited i.limit).consumed cause.noticeCause] := by
  have lapsed := OneRecord.lapse own n
  have same := s.lapsed_frame n i
  have ended := State.endDrain_ends lapsed.own state (Nat.sub_eq_zero_of_le last.le)
  rw [State.expire_eq, ended]
  exact ⟨(lapsed.trans (.putRecord lapsed.own none)).of_records (State.notify_records _ _),
    (State.lapsed_notices own n).notify _ same.settings same.time⟩

end

/-! ### EXPIRY (O30) -/

/-- The end of an expiry transaction (R130): the Timer asks again while a ticket is due. -/
def State.endExpiry (s : State) : State := { s with timerAsked := s.anyDue }.release

theorem execExpiry_ready {s : State} (free : s.inReset = false)
    (holder : s.arbiter.holder = some .ticketTimer) (asked : s.timerAsked = true) :
    exec .expiry s = .next s.expireEarliest.endExpiry := by
  rw [exec, execExpiry, State.unlessReset_free free, if_pos ⟨holder, asked⟩, State.endExpiry]

theorem State.endExpiry_frame (s : State) : UnchangedExcept [.timerAsked, .arbiter] s s.endExpiry :=
  .of_parts fun p => by cases p <;> simp [Part.Same, State.endExpiry]

theorem State.endExpiry_timerAsked (s : State) : s.endExpiry.timerAsked = s.anyDue :=
  State.release_timerAsked _

theorem State.endExpiry_released {s u : State} (arbiter : u.arbiter = s.arbiter) :
    TableReleased s u.endExpiry := by
  rw [TableReleased, ← arbiter]
  exact State.release_released { u with timerAsked := u.anyDue }

/-- Settles O30: the transaction is the expiry of the ticket found, if any, and whether the holder's drain ends
with it decides what it leaves of the holder. -/
theorem expiry : Obligations.Expiry := by
  refine fun s free holder asked => ⟨fun early => ⟨_, execExpiry_ready free holder asked, ?_⟩,
    fun n i r issued due first own => ⟨_, execExpiry_ready free holder asked, ?_⟩⟩
  · have quiet : s.anyDue = false := by
      rw [← Bool.not_eq_true, s.anyDue_iff]
      exact fun ⟨n, i, issued, due⟩ => absurd due (Int.not_le.2 (early n i issued))
    rw [State.expireEarliest_none early]
    exact ⟨s.endExpiry_timerAsked.trans quiet, State.endExpiry_released rfl, s.endExpiry_frame⟩
  · rw [State.expireEarliest_some issued due first]
    have ends := (s.expire n i).endExpiry_frame
    have one := (OneTicket.returned issued).of_tickets (s.expire_tickets n i)
    refine ⟨State.endExpiry_released (s.expire_frame n i).arbiter,
      ((s.expire_frame n i).trans ends).mono,
      one.of_tickets ends.tickets, ends.pool.trans (s.pool_expire n i),
      ends.gov.trans (State.expire_usage own n), ?_, fun stays => ?_, fun cause state last => ?_⟩
    · rw [State.endExpiry_timerAsked, State.anyDue_iff, one.someDue_iff]
    · obtain ⟨kept, made⟩ := State.expire_keeps own n stays
      exact ⟨kept.of_records (ends .records (by decide)), ends.notices.trans made⟩
    · obtain ⟨freed, made⟩ := State.expire_frees own n state last
      rw [cause.noticeCause_eq] at made
      exact ⟨freed.of_records (ends .records (by decide)), ends.notices.trans made⟩

end Sys2Proof.Machine
end

section
/-! PROOF. The Load Governor, medium hold-off, and the requests that read what stands (O33, O52, O53, O34,
O54). -/

namespace Sys2Proof.Machine

/-! ### A change of the governor's state (R147) -/

theorem State.setGovernorState_frame (s : State) (g : Governor) :
    UnchangedExcept [.gov, .notices] s (s.setGovernorState g) :=
  .of_parts fun p => by cases p <;> simp [Part.Same]

/-- The notice of a governor put in place of another, none where the state stays. -/
theorem State.setGovernorState_made (s : State) (g : Governor) : NoticesMade s (s.setGovernorState g)
    (if g.load = s.gov.load then [] else [.governor g.load g.lastUtilization]) := by
  rw [State.setGovernorState]
  split <;> rfl

/-! ### WINDOW_END (O33) -/

section
variable {c : GovernorSettings} {n u : Nat}

/-! The rows of Table 7-3. -/

theorem judgeLoad_enters (reached : c.enter ≤ u) : judgeLoad c .calm n u = (.crowded, c.minHold) :=
  if_pos reached

theorem judgeLoad_staysCalm (below : u < c.enter) : judgeLoad c .calm n u = (.calm, 0) :=
  if_neg below.not_ge

theorem judgeLoad_countsDown (more : 1 < n) : judgeLoad c .crowded n u = (.crowded, n - 1) :=
  if_pos (Nat.sub_pos_of_lt more)

theorem judgeLoad_staysCrowded (last : n ≤ 1) (reached : c.exit ≤ u) :
    judgeLoad c .crowded n u = (.crowded, 0) := by
  rw [judgeLoad, if_neg (by omega), if_pos reached]

theorem judgeLoad_leaves (last : n ≤ 1) (below : u < c.exit) : judgeLoad c .crowded n u = (.calm, 0) := by
  rw [judgeLoad, if_neg (by omega), if_neg below.not_ge]

variable {g : Governor}

theorem Governor.windowEnd_off (off : c.mode = false) :
    (g.windowEnd c).load = g.load ∧ (g.windowEnd c).countdown = g.countdown := by
  simp [Governor.windowEnd, off]

theorem Governor.windowEnd_on (on : c.mode = true) {before after : Load} (load : g.load = before)
    (row : judgeLoad c before g.countdown (utilization g.windowUsage c.window) = (after, n)) :
    (g.windowEnd c).load = after ∧ (g.windowEnd c).countdown = n := by
  simp [Governor.windowEnd, on, load, row]

end

theorem isTimed_windowEnd : IsTimed .windowEnd State.heldStep State.windowLeft State.windowEnded :=
  .of_guarded fun _ => rfl

/-- Settles O33: the window's end is the governor's own, and in mode ON each case of load, countdown and
utilization is a row of Table 7-3. -/
theorem windowEnd : Obligations.WindowEnd := by
  refine ⟨fun s => rfl, fun s free ended => ⟨_, isTimed_windowEnd.exec_now free (congrArg some ended),
    s.setGovernorState_frame _, ?_⟩⟩
  intro c util
  have gov : s.windowEnded.gov = s.gov.windowEnd c := s.setGovernorState_gov _
  rw [gov]
  exact ⟨rfl, Governor.windowEnd_off,
    fun on calm reached => Governor.windowEnd_on on calm (judgeLoad_enters reached),
    fun on calm below => Governor.windowEnd_on on calm (judgeLoad_staysCalm below),
    fun on crowded more => Governor.windowEnd_on on crowded (judgeLoad_countsDown more),
    fun on crowded last reached => Governor.windowEnd_on on crowded (judgeLoad_staysCrowded last reached),
    fun on crowded last below => Governor.windowEnd_on on crowded (judgeLoad_leaves last below),
    s.setGovernorState_made _⟩

/-! ### SET_GOVERNOR (O52) -/

theorem GovernorItems.isEmpty_iff {i : GovernorItems} :
    i.isEmpty = true ↔ i = ⟨none, none, none, none, none⟩ := by
  obtain ⟨mode, window, enter, exit, minHold⟩ := i
  simp [GovernorItems.isEmpty, and_assoc]

section
variable {s : State} {i : GovernorItems} (working : s.HostWorking (.setGovernor i))
include working

theorem execSetGovernor_empty (empty : i = ⟨none, none, none, none, none⟩) :
    exec .setGovernor s = .next (s.hostAnswer .done) := by
  rw [exec, execSetGovernor, State.inHostRequest_working working]
  dsimp only
  rw [if_pos (GovernorItems.isEmpty_iff.2 empty), Option.getD_some]

theorem execSetGovernor_items (items : i ≠ ⟨none, none, none, none, none⟩) :
    exec .setGovernor s = .next ((State.setGovernorState
      { s with settings := { s.settings with governor := i.apply s.settings.governor } }
      (s.gov.restarted (i.apply s.settings.governor) i.mode)).hostAnswer .done) := by
  rw [exec, execSetGovernor, State.inHostRequest_working working]
  dsimp only
  rw [if_neg (items ∘ GovernorItems.isEmpty_iff.1), Option.getD_some]

end

/-- Mode OFF forces CALM on a CROWDED governor, and nothing else changes its state (R153). -/
theorem Governor.restarted_eq (g : Governor) (c : GovernorSettings) (mode : Option Bool) :
    g.restarted c mode = { g with
      windowUsage := 0
      podiumUsage := 0
      windowLeft := c.window * 1000
      load := if mode = some false ∧ g.load = .crowded then .calm else g.load
      countdown := if mode = some false ∧ g.load = .crowded then 0 else g.countdown } := by
  have load : (if mode = some false then .calm else g.load) =
      if mode = some false ∧ g.load = .crowded then .calm else g.load := by
    cases g.load <;> simp
  rw [Governor.restarted, load]

/-- The forced change is the only one that makes a notice (R147). -/
theorem Governor.restarted_notices (g : Governor) (c : GovernorSettings) (mode : Option Bool) :
    (if (g.restarted c mode).load = g.load then []
      else [NoticeBody.governor (g.restarted c mode).load (g.restarted c mode).lastUtilization]) =
    if mode = some false ∧ g.load = .crowded then [.governor .calm g.lastUtilization] else [] := by
  rw [g.restarted_eq]
  by_cases forced : mode = some false ∧ g.load = .crowded
  · simp [forced]
  · simp only [if_neg forced, if_true]

/-- Settles O52: with an item the request is a change of the settings and a restart of the governor under
them. -/
theorem setGovernor : Obligations.SetGovernor := by
  refine fun s i working => ⟨fun empty => ⟨_, execSetGovernor_empty working empty,
    .of_frame (.refl [] s) _⟩, fun items => ?_⟩
  intro c window forced
  refine ⟨_, execSetGovernor_items working items, .of_frame ?_ _, ?_, ?_, ?_⟩
  · exact .of_parts fun p => by cases p <;> simp [Part.Same]
  · rw [State.hostAnswer_settings, State.setGovernorState_settings]
    rfl
  · rw [State.hostAnswer_gov, State.setGovernorState_gov]
    exact s.gov.restarted_eq _ i.mode
  · rw [← s.gov.restarted_notices (i.apply c) i.mode]
    exact State.setGovernorState_made
      { s with settings := { s.settings with governor := i.apply c } } _

/-! ### HOLD (O53) -/

theorem parseHold_eq (body : List Byte) : parseHold body =
    if body.length = 2 ∧ natOfBytes body ≤ 4000 then some (.hold (natOfBytes body)) else none := by
  by_cases length : body.length = 2
  · have field : fieldAt body 0 2 = natOfBytes body := by
      rw [fieldAt, List.drop_zero, List.take_of_length_le length.le]
    simp [parseHold, field, length]
  · simp [parseHold, length]

/-- A sound frame whose body is refused makes the port ANSWER_READY with BAD_FIELD, and nothing outside the
Request Port changes (R178, R186). -/
theorem execSubmit_badField {s : State} {span : SpiSpan} {bytes body : List Byte} {code : Byte}
    (free : s.inReset = false) (ends : EndsLatched s span .idle) (idle : s.req.port = .idle)
    (sound : SoundFrame bytes code body) (refused : parseRequest s.settings code.toNat body = some none)
    (k : Nat) : ∃ t, exec (.submit span bytes k) s = .next t ∧ t.req.port = .answerReady .badField ∧
      UnchangedExcept [.req] s t := by
  obtain ⟨q, ran⟩ := execSubmit_of_ends free ends idle bytes k
  rw [State.takeFrame_badField (s := { s with req := q }) sound refused] at ran
  exact ⟨_, ran, rfl, .of_parts fun p => by cases p <;> simp [Part.Same]⟩

/-- Settles O53: a HOLD is its two bytes' number, loads the counter as it is, and a RESYNC clears it. -/
theorem holdRequest : Obligations.HoldRequest := by
  refine ⟨fun settings body => congrArg some (parseHold_eq body),
    fun s span bytes body k free ends idle sound other => ?_, fun ms => rfl, fun s ms working => ?_,
    fun s tag ready => ⟨_, execResync_ready ready, ?_⟩⟩
  · have refused : parseHold body = none := by
      rw [parseHold_eq, if_neg (by omega)]
    exact execSubmit_badField free ends idle sound (congrArg some refused) k
  · refine ⟨_, State.inHostRequest_working working _, .of_frame ?_ _, rfl⟩
    exact .of_parts fun p => by cases p <;> simp [Part.Same]
  · rw [State.endMedium_gov, State.resynced_gov]

/-! ### The end of a hold and of the coalescing timer (O34) -/

theorem isTimed_holdCounterExpiry :
    IsTimed .holdCounterExpiry State.ownStep State.holdLeft id := .of_guarded fun _ => rfl

theorem isTimed_coalesceTimerExpiry :
    IsTimed .coalesceTimerExpiry State.heldStep State.coalesceLeft State.coalesceExpired :=
  .of_guarded fun _ => rfl

section
variable {own : State → Option Instr} {s : State} {n : Nat}

/-- Some time in which nothing comes up only passes, whatever the timebase. -/
theorem State.elapse_clear_of_pos (rule : own ∈ passageRules) (idle : own s = none) (clear : s.ClearFor n)
    (pos : 0 < n) : s.elapse own n = s.passTime n := by
  obtain ⟨m, rfl⟩ := Nat.exists_eq_add_one_of_ne_zero pos.ne'
  rw [State.elapse_eq rule, ← Nat.zero_add (m + 1), State.elapseEach_clear rule m 0 s idle clear,
    Nat.zero_add, State.elapseEach]

/-- Over a time in which nothing comes up a timed command is that of the end of the time. -/
theorem IsTimed.exec_clear {c : Instr} {left : State → Option Nat} {event : State → State}
    (timed : IsTimed c own left event) (rule : own ∈ passageRules) (free : s.inReset = false)
    (idle : own s = none) (comes : left s = some n) (pos : 0 < n) (clear : s.ClearFor n)
    (ended : left (s.passTime n) = some 0) : exec c s = .next (event (s.passTime n)) := by
  obtain ⟨m, rfl⟩ := Nat.exists_eq_add_one_of_ne_zero pos.ne'
  have settled : s.settled own = s := State.settled_of_none idle
  have passes : (s.settled own).elapse own (m + 1) = s.passTime (m + 1) := by
    rw [settled, State.elapse_clear_of_pos rule idle clear pos]
  have reached := timed.exec_reached free comes (settled ▸ comes) (passes ▸ ended)
  rw [reached, passes]
  exact timed.exec_now free ended

end

theorem State.coalesceExpired_frame (s : State) : UnchangedExcept [.notices] s s.coalesceExpired :=
  .of_parts fun p => by cases p <;> simp [Part.Same, State.coalesceExpired]

/-- Settles O34: each is timed; at its moment it is its event, and a time in which nothing comes up brings that
moment. -/
theorem holdAndCoalesceExpiry : Obligations.HoldAndCoalesceExpiry := by
  refine ⟨fun s free => ⟨rfl, fun ended => ?_, fun pos idle window period coalesce deadline => ?_⟩,
    fun s free => ⟨rfl, fun stopped => ?_, fun now => ?_,
      fun n running pos idle window period deadline => ?_⟩⟩
  · exact isTimed_holdCounterExpiry.exec_now free (congrArg some ended)
  · have ended : (s.passTime s.gov.hold).gov.hold = 0 := Nat.sub_self _
    exact ⟨_, isTimed_holdCounterExpiry.exec_clear (by simp [passageRules]) free idle rfl pos
      ⟨window, period, coalesce, fun _ => deadline⟩ (congrArg some ended), s.passTime_timePassed _, ended⟩
  · exact isTimed_coalesceTimerExpiry.exec_none free stopped
  · exact ⟨_, isTimed_coalesceTimerExpiry.exec_now free now, s.coalesceExpired_frame, rfl⟩
  · have clear : s.ClearFor n := ⟨window, period, fun k left => by
      rw [running] at left
      exact (Option.some.inj left).le, fun _ => deadline⟩
    have ended : State.coalesceLeft (s.passTime n) = some 0 := by
      simp [State.coalesceLeft, running]
    exact ⟨_, _, s.passTime_timePassed n, isTimed_coalesceTimerExpiry.exec_clear (by simp [passageRules])
      free idle running pos clear ended, State.coalesceExpired_frame _, rfl⟩

/-! ### IDENTIFY, READ_GOVERNOR and READ_SETTINGS (O54) -/

section
variable {s : State} {g : Group}

/-- A group that is table state is read in the transaction (R182). -/
theorem execReadSettings_tabled (ready : s.HostReady (.readSettings g)) (tabled : g.usesTable = true) :
    exec .readSettings s = .next (s.endHost (.settings (s.groupContents g))) := by
  rw [exec, execReadSettings, State.inHostRequest_working ⟨ready.free, ready.port⟩]
  dsimp only
  rw [if_pos tabled, if_pos ready.holder, Option.getD_some]

theorem execReadSettings_direct (working : s.HostWorking (.readSettings g)) (direct : g.usesTable = false) :
    exec .readSettings s = .next (s.hostAnswer (.settings (s.groupContents g))) := by
  rw [exec, execReadSettings, State.inHostRequest_working working]
  dsimp only
  rw [if_neg (by simp [direct]), Option.getD_some]

theorem readSettings_endsHost (ready : s.HostReady (.readSettings g)) (tabled : g.usesTable = true) :
    ∃ t, exec .readSettings s = .next t ∧ EndsHost s t (.settings (s.groupContents g)) [] :=
  ⟨_, execReadSettings_tabled ready tabled, .of_frame (.refl [] s) _⟩

theorem readSettings_answersDirectly (working : s.HostWorking (.readSettings g))
    (direct : g.usesTable = false) :
    ∃ t, exec .readSettings s = .next t ∧ AnswersDirectly s t (.settings (s.groupContents g)) [] :=
  ⟨_, execReadSettings_direct working direct, .of_frame (.refl [] s) _⟩

end

/-- Settles O54: every answer is read off the state before anything changes, and only the clear of a
READ_GOVERNOR changes any of it. -/
theorem readings : Obligations.Readings := by
  refine ⟨fun s working => ⟨_, State.inHostRequest_working working _, .of_frame (.refl [] s) _⟩,
    fun s clear working => ⟨_, State.inHostRequest_working working _, .of_frame ?_ _, rfl⟩,
    fun s ready => readSettings_endsHost ready rfl, fun s ready => readSettings_endsHost ready rfl,
    fun s ready => readSettings_endsHost ready rfl,
    fun s working => readSettings_answersDirectly working rfl,
    fun s working => readSettings_answersDirectly working rfl,
    fun s working => readSettings_answersDirectly working rfl⟩
  exact .of_parts fun p => by cases p <;> simp [Part.Same]

end Sys2Proof.Machine
end

section
/-! PROOF. The Medium Port: words written and read, the words of its answers, and messages taken (O13 to
O16). -/

namespace Sys2Proof.Machine

/-! ### Words written (O13) -/

theorem State.minFull_iff {s : State} (short : s.medium.inbound.length ≤ 16) :
    s.minFull = true ↔ s.medium.inbound.length = 16 := by
  rw [State.minFull, Config.mediumDepth, decide_eq_true_eq]
  omega

theorem MediumPort.arrive_eq (p : MediumPort) (m : RawMessage) :
    p.arrive m = { p with
      inbound := arrivedQueue p.inbound m
      overrun := arrivedMark p.inbound p.overrun } := by
  by_cases room : p.inbound.length < 16
  · simp [MediumPort.arrive, arrivedQueue, arrivedMark, Config.mediumDepth, room]
  · simp [MediumPort.arrive, arrivedQueue, arrivedMark, Config.mediumDepth, room, Nat.not_lt.1 room]

section
variable {p : MediumPort} {w : Word} {m : RawMessage}

/-! A body word (R158, R159). -/

theorem MediumPort.writeBody_stray (idle : p.assembly = none) :
    p.writeBody w = { p with overrun := true } := by
  rw [MediumPort.writeBody, idle]

theorem MediumPort.writeBody_joins (assembling : p.assembly = some m)
    (more : m.body.length + 1 < declaredWords m.header) :
    p.writeBody w = { p with assembly := some ⟨m.header, m.body ++ [w]⟩ } := by
  rw [MediumPort.writeBody, assembling]
  simp [more]

theorem MediumPort.writeBody_completes (assembling : p.assembly = some m)
    (last : declaredWords m.header ≤ m.body.length + 1) :
    p.writeBody w = { p with
      assembly := none
      inbound := arrivedQueue p.inbound ⟨m.header, m.body ++ [w]⟩
      overrun := arrivedMark p.inbound p.overrun } := by
  rw [MediumPort.writeBody, assembling]
  simp [last, MediumPort.arrive_eq]

/-- The port with its assembly, if any, arrived cut short (R159). -/
def MediumPort.cutShort (p : MediumPort) : MediumPort := p.assembly.elim p p.arrive

theorem MediumPort.cutShort_none (idle : p.assembly = none) : p.cutShort = p := by
  rw [MediumPort.cutShort, idle, Option.elim_none]

theorem MediumPort.cutShort_some (assembling : p.assembly = some m) : p.cutShort = p.arrive m := by
  rw [MediumPort.cutShort, assembling, Option.elim_some]

/-- Cutting an assembly short touches the inbound queue and the overrun mark only. -/
theorem MediumPort.cutShort_eq (p : MediumPort) :
    p.cutShort = { p with inbound := p.cutShort.inbound, overrun := p.cutShort.overrun } := by
  obtain idle | ⟨m, assembling⟩ := Option.eq_none_or_eq_some p.assembly
  · rw [MediumPort.cutShort_none idle]
  · rw [MediumPort.cutShort_some assembling, MediumPort.arrive_eq]

theorem MediumPort.writeHeader_eq (p : MediumPort) (w : Word) :
    p.writeHeader w =
      if declaredWords w = 0 then { p.cutShort.arrive ⟨w, []⟩ with assembly := none }
      else { p.cutShort with assembly := some ⟨w, []⟩ } := by
  rw [MediumPort.writeHeader, MediumPort.cutShort]
  cases p.assembly <;> rfl

/-! A header word (R158, R159). -/

theorem MediumPort.writeHeader_begins (declares : 0 < declaredWords w) :
    p.writeHeader w = { p with
      assembly := some ⟨w, []⟩, inbound := p.cutShort.inbound, overrun := p.cutShort.overrun } := by
  rw [MediumPort.writeHeader_eq, if_neg declares.ne', p.cutShort_eq]

theorem MediumPort.writeHeader_arrives (declares : declaredWords w = 0) :
    p.writeHeader w = { p with
      assembly := none
      inbound := arrivedQueue p.cutShort.inbound ⟨w, []⟩
      overrun := arrivedMark p.cutShort.inbound p.cutShort.overrun } := by
  rw [MediumPort.writeHeader_eq, if_pos declares, MediumPort.arrive_eq, p.cutShort_eq]

end

/-- The three commands of a MIN_WR strobe write the word, and touch the port only. -/
theorem exec_writeWord {s : State} {w : Word} {c : Instr} (free : s.inReset = false)
    (strobe : c ∈ [Instr.strayBodyWord w, .assemblyWord w, .messageArrival w]) :
    exec c s = .next (s.writeWord w) ∧ UnchangedExcept [.medium] s (s.writeWord w) := by
  have writes : exec c s = s.unlessReset (·.writeWord w) := by
    fin_cases strobe <;> rfl
  exact ⟨writes.trans (State.unlessReset_free free _),
    .of_parts fun p => by cases p <;> simp [Part.Same, State.writeWord]⟩

theorem State.writeWord_body {s : State} {w : Word} (body : w.getLsbD 15 = false) :
    (s.writeWord w).medium = s.medium.writeBody w :=
  if_neg (ne_true_of_eq_false body)

theorem State.writeWord_header {s : State} {w : Word} (header : w.getLsbD 15 = true) :
    (s.writeWord w).medium = s.medium.writeHeader w :=
  if_pos header

/-- Settles O13: each strobe is the one write, of a body word or of a header word behind the assembly cut
short. -/
theorem writeWord : Obligations.WriteWord := by
  refine ⟨fun s short => State.minFull_iff short, fun s w free body c strobe => ?_,
    fun s w free header c strobe => ?_⟩ <;>
    obtain ⟨ran, frame⟩ := exec_writeWord free strobe
  · refine ⟨_, ran, frame, ?_⟩
    rw [State.writeWord_body body]
    exact ⟨MediumPort.writeBody_stray, fun m => MediumPort.writeBody_joins,
      fun m => MediumPort.writeBody_completes⟩
  · refine ⟨_, ran, frame, s.medium.cutShort.inbound, s.medium.cutShort.overrun, fun idle => ?_,
      fun m assembling => ?_, ?_⟩
    · rw [MediumPort.cutShort_none idle]
      exact ⟨rfl, rfl⟩
    · rw [MediumPort.cutShort_some assembling, MediumPort.arrive_eq]
      exact ⟨rfl, rfl⟩
    · rw [State.writeWord_header header]
      exact ⟨MediumPort.writeHeader_begins, MediumPort.writeHeader_arrives⟩

/-! ### Words read (O14) -/

section
variable {p : MediumPort} {a : QueuedAnswer} {rest : List QueuedAnswer}

theorem MediumPort.readWord_empty (empty : p.answers = []) : p.readWord = p := by
  rw [MediumPort.readWord, empty]

theorem MediumPort.readWord_next (head : p.answers = a :: rest) (more : p.headRead + 1 < a.words.length) :
    p.readWord = { p with headRead := p.headRead + 1 } := by
  rw [MediumPort.readWord, head]
  exact if_neg more.not_ge

theorem MediumPort.readWord_last (head : p.answers = a :: rest) (last : a.words.length ≤ p.headRead + 1) :
    p.readWord = { p with answers := rest, headRead := 0 } := by
  rw [MediumPort.readWord, head]
  exact if_pos last

end

theorem State.moutD_head {s : State} {a : QueuedAnswer} {rest : List QueuedAnswer}
    (head : s.medium.answers = a :: rest) : s.moutD = a.words.getD s.medium.headRead 0 := by
  rw [State.moutD, head]

theorem State.moutValid_head {s : State} {a : QueuedAnswer} {rest : List QueuedAnswer}
    (head : s.medium.answers = a :: rest) : s.moutValid = true := by
  rw [State.moutValid, head]
  rfl

theorem State.mout_empty {s : State} (empty : s.medium.answers = []) :
    s.moutD = 0 ∧ s.moutValid = false := by
  rw [State.moutD, State.moutValid, empty]
  exact ⟨rfl, rfl⟩

/-- The part after a strobe of MOUT_RD. -/
def State.wordRead (s : State) : State := { s with medium := s.medium.readWord }

theorem execAnswerWordRead_free {s : State} (free : s.inReset = false) :
    exec .answerWordRead s = .next s.wordRead :=
  State.unlessReset_free free State.wordRead

theorem State.wordRead_frame (s : State) : UnchangedExcept [.medium] s s.wordRead :=
  .of_parts fun p => by cases p <;> simp [Part.Same, State.wordRead]

/-- Settles O14: the strobe reads one word of the head answer, and the pins show the queue it leaves. -/
theorem answerWordRead : Obligations.AnswerWordRead := by
  refine fun s free => ⟨_, execAnswerWordRead_free free, s.wordRead_frame, fun empty => ?_,
    fun a rest head more => ?_, fun a rest head last => ?_⟩
  · have read : s.wordRead = s := by rw [State.wordRead, MediumPort.readWord_empty empty]
    exact ⟨read, State.mout_empty empty⟩
  · have read : s.wordRead.medium = _ := MediumPort.readWord_next head more
    have stays : s.wordRead.medium.answers = a :: rest := (congrArg MediumPort.answers read).trans head
    refine ⟨read, ?_, State.moutValid_head stays⟩
    rw [State.moutD_head stays, read]
  · have read : s.wordRead.medium = _ := MediumPort.readWord_last head last
    have left : s.wordRead.medium.answers = rest := congrArg MediumPort.answers read
    refine ⟨read, fun b others next => ?_, fun none => (State.mout_empty (left.trans none)).2⟩
    rw [State.moutD_head (left.trans next), read]

/-! ### The words of answers (O15) -/

/-- An answer's words are laid out as soon as its body words are. -/
theorem QueuedAnswer.words_of_body {a : MediumAnswer} {body : List Nat}
    (laid : a.body = body.map (BitVec.ofNat 16)) (tag : BitVec 4) (overrun : Bool) :
    QueuedAnswer.words ⟨tag, overrun, a⟩ =
      ((2 ^ 15 + a.code * 2 ^ 11 + tag.toNat * 2 ^ 7 + overrun.toNat * 2 ^ 6 + body.length * 2 ^ 2) ::
        body).map (BitVec.ofNat 16) := by
  simp [QueuedAnswer.words, laid]

theorem addressWords_eq (a : Address) : addressWords a =
    [a.toNat / 2 ^ 36, a.toNat / 2 ^ 24 % 2 ^ 12, a.toNat / 2 ^ 12 % 2 ^ 12, a.toNat % 2 ^ 12].map
      (BitVec.ofNat 16) := by
  have high : a.toNat / 2 ^ 36 % 4096 = a.toNat / 2 ^ 36 := Nat.mod_eq_of_lt (by omega)
  rw [addressWords, high]
  rfl

/-- Settles O15: the header is the same for every answer, and each body is laid out as it is defined. -/
theorem mediumAnswersOnTheWire : Obligations.MediumAnswersOnTheWire := by
  refine ⟨fun n q h a limit cap => QueuedAnswer.words_of_body ?_,
    fun d => QueuedAnswer.words_of_body rfl, QueuedAnswer.words_of_body rfl,
    QueuedAnswer.words_of_body rfl, fun v => QueuedAnswer.words_of_body rfl,
    fun h => QueuedAnswer.words_of_body rfl, QueuedAnswer.words_of_body rfl,
    fun n q => QueuedAnswer.words_of_body rfl, fun h => QueuedAnswer.words_of_body rfl,
    QueuedAnswer.words_of_body rfl, QueuedAnswer.words_of_body rfl,
    fun n => QueuedAnswer.words_of_body rfl, fun k => QueuedAnswer.words_of_body rfl,
    fun k why => QueuedAnswer.words_of_body ?_⟩
  · rw [MediumAnswer.body, addressWords_eq]
    rfl
  · cases why <;> rw [MediumAnswer.body, BadReason.code, Nat.mul_comm] <;> rfl

/-! ### Messages taken (O16) -/

theorem execMessageTake_takes {s : State} {m : RawMessage} {rest : List RawMessage}
    (free : s.inReset = false) (idle : s.medium.work = none) (room : s.medium.answers.length < 16)
    (head : s.medium.inbound = m :: rest) :
    exec .messageTake s =
      .next ({ s with medium := { s.medium with inbound := rest } }.workMessage m) := by
  have can : s.canTake = true := by simp [State.canTake, idle, Config.mediumDepth, room, head]
  refine (State.unlessReset_free free _).trans ?_
  rw [if_pos can, head]

theorem State.workMessage_inbound (s : State) (m : RawMessage) :
    (s.workMessage m).medium.inbound = s.medium.inbound := by
  rcases s.workMessage_cases m with ⟨a, same⟩ | ⟨d, -, same⟩ | ⟨b, -, same⟩ <;> rw [same]
  · rfl
  · rfl
  · rw [State.ask_medium]

section
variable {s : State} {m : RawMessage}

theorem State.workMessage_needResync (awaits : s.medium.engine = .awaitResync) (other : m.kind ≠ 6) :
    s.workMessage m = s.placeAnswer m.tag (.needResync m.kind) :=
  if_pos ⟨awaits, other⟩

/-- The check by state lets a message pass in RUNNING, and a RESYNC always (R165). -/
theorem State.workMessage_passes (passes : s.medium.engine = .running ∨ m.kind = 6) :
    ¬(s.medium.engine = .awaitResync ∧ m.kind ≠ resyncKind) := by
  rintro ⟨awaits, other⟩
  rcases passes with running | resync
  · rw [running] at awaits
    cases awaits
  · exact other resync

variable (passes : s.medium.engine = .running ∨ m.kind = 6)
include passes

theorem State.workMessage_badMessage {reason : BadReason} (fails : m.check = .error reason) :
    s.workMessage m = s.placeAnswer m.tag (.badMessage m.kind reason) := by
  rw [State.workMessage, if_neg (State.workMessage_passes passes), fails]

theorem State.workMessage_quiet {d : Nat} (quiet : m.check = .ok (.quiet d)) :
    s.workMessage m = { s with gov := { s.gov with hold := d } }.placeAnswer m.tag (.done none) := by
  rw [State.workMessage, if_neg (State.workMessage_passes passes), quiet]

theorem State.workMessage_held {b : MessageBody} (sound : m.check = .ok b) (held : ∀ d, b ≠ .quiet d) :
    s.workMessage m =
      { s with medium := { s.medium with work := some ⟨m.tag, b⟩ } }.ask .mediumEngine := by
  rw [State.workMessage, if_neg (State.workMessage_passes passes), sound]
  cases b with
  | quiet d => exact absurd rfl (held d)
  | opportunity | complete | heard | demand | resync => rfl

end

/-- Settles O16: the message taken is worked in the part without it, by the first check that applies. -/
theorem messageTake : Obligations.MessageTake := by
  refine ⟨fun s m rest free idle room head short => ?_, fun s m rest free idle room head =>
    ⟨fun awaits other => ?_, fun passes reason fails => ?_⟩,
    fun s m rest free idle room head passes => ⟨fun d quiet => ?_, fun b sound held => ?_⟩⟩ <;>
    refine ⟨_, execMessageTake_takes free idle room head, ?_⟩
  · have left := State.workMessage_inbound { s with medium := { s.medium with inbound := rest } } m
    refine ⟨left, ?_⟩
    rw [State.minFull, left]
    simpa [head, Config.mediumDepth] using short
  · rw [State.workMessage_needResync (by exact awaits) other]
    exact ⟨rfl, .of_parts fun p => by cases p <;> simp [Part.Same]⟩
  · rw [State.workMessage_badMessage (by exact passes) fails]
    exact ⟨rfl, .of_parts fun p => by cases p <;> simp [Part.Same]⟩
  · rw [State.workMessage_quiet (by exact passes) quiet]
    exact ⟨rfl, rfl, .of_parts fun p => by cases p <;> simp [Part.Same]⟩
  · rw [State.workMessage_held (by exact passes) sound held]
    exact ⟨State.ask_medium _ _, State.ask_asked _ _, .of_parts fun p => by cases p <;> simp [Part.Same]⟩

end Sys2Proof.Machine
end

section
/-! PROOF. The checks of form of a message: the spare bits of its words as the widths of its fields, and its
fields as what its words spell (O17). -/

namespace Sys2Proof.Machine

/-! ### The fields of a word -/

theorem spareFrom_iff {w : Word} (mark : w.getLsbD 15 = false) (n : Nat) :
    spareFrom w n = true ↔ w.toNat < 2 ^ n := by
  have short : w.toNat < 2 ^ 15 := Nat.lt_pow_two_of_testBit _ fun i above => by
    rcases Nat.eq_or_lt_of_le above with rfl | beyond
    · exact mark
    · exact BitVec.getLsbD_of_ge w i beyond
  have high : w.toNat / 2 ^ n < 2 ^ (15 - n) := Nat.div_lt_of_lt_mul <| short.trans_le <| by
    rw [← Nat.pow_add]
    exact Nat.pow_le_pow_right (by decide) (by omega)
  rw [spareFrom, beq_iff_eq, bitsAt, Nat.mod_eq_of_lt high, Nat.div_eq_zero_iff_lt (Nat.two_pow_pos n)]

/-- The word with its low `n` bits set. -/
def lowBits (n : Nat) : Word := BitVec.ofNat 16 (2 ^ n - 1)

theorem getLsbD_lowBits {i : Nat} (bit : i < 16) (n : Nat) : (lowBits n).getLsbD i = decide (i < n) := by
  rw [lowBits, BitVec.getLsbD_ofNat, Nat.testBit_two_pow_sub_one, decide_eq_true bit, Bool.true_and]

/-- The bits of a body word outside its low `n` are 0. -/
theorem masked_iff {w : Word} (mark : w.getLsbD 15 = false) (n : Nat) :
    w &&& ~~~lowBits n &&& 0x7FFF = 0 ↔ w.toNat < 2 ^ n := by
  have all : (0x7FFF : Word) = lowBits 15 := rfl
  constructor
  · refine fun zero => Nat.lt_pow_two_of_testBit _ fun i above => ?_
    rcases Nat.lt_trichotomy i 15 with below | rfl | beyond
    · have inside : i < 16 := by omega
      have bit : (w &&& ~~~lowBits n &&& lowBits 15).getLsbD i = false := by
        rw [← all, zero]
        exact BitVec.getLsbD_zero
      rw [BitVec.getLsbD_and, BitVec.getLsbD_and, BitVec.getLsbD_not, getLsbD_lowBits inside,
        getLsbD_lowBits inside] at bit
      show w.getLsbD i = false
      simpa [inside, below, above.not_gt] using bit
    · exact mark
    · exact BitVec.getLsbD_of_ge w i beyond
  · refine fun fits => BitVec.eq_of_getLsbD_eq fun i inside => ?_
    by_cases low : i < n
    · simp [getLsbD_lowBits inside, low]
    · have clear : w.getLsbD i = false :=
        Nat.testBit_lt_two_pow (fits.trans_le (Nat.pow_le_pow_right (by decide) (Nat.not_lt.1 low)))
      simp [clear]

/-- No bit of a word's low `n` is set. -/
theorem and_lowBits_iff {n : Nat} (most : n ≤ 16) (w : Word) :
    w &&& lowBits n = 0 ↔ ∀ i ∈ List.range n, w.getLsbD i = false := by
  simp only [List.mem_range]
  constructor
  · intro zero i low
    have bit := congrArg (BitVec.getLsbD · i) zero
    simpa [getLsbD_lowBits (low.trans_le most), low] using bit
  · refine fun clear => BitVec.eq_of_getLsbD_eq fun i inside => ?_
    by_cases low : i < n
    · simp [clear i low]
    · simp [getLsbD_lowBits inside, low]

theorem eq_ofNat_iff {v : Nat} (fits : v < 2 ^ 16) (w : Word) : w = BitVec.ofNat 16 v ↔ w.toNat = v := by
  rw [← BitVec.toNat_inj, BitVec.toNat_ofNat, Nat.mod_eq_of_lt fits]

section
variable {w : Word} {n : Nat}

theorem bitsAt_zero (fits : w.toNat < 2 ^ n) : bitsAt w 0 n = w.toNat := by
  rw [bitsAt, Nat.pow_zero, Nat.div_one, Nat.mod_eq_of_lt fits]

/-- A word of one field spells it. -/
theorem eq_field_iff (fits : w.toNat < 2 ^ n) (most : n ≤ 16) (v : Nat) :
    v = bitsAt w 0 n ↔ v < 2 ^ n ∧ w = BitVec.ofNat 16 v := by
  rw [bitsAt_zero fits]
  constructor
  · rintro rfl
    exact ⟨fits, by simp⟩
  · rintro ⟨short, spelt⟩
    exact ((eq_ofNat_iff (short.trans_le (Nat.pow_le_pow_right (by decide) most)) w).1 spelt).symm

/-- A word of two fields spells them, one above the other. -/
theorem eq_fields_iff {lo : Nat} (fits : w.toNat < 2 ^ (lo + n)) (most : lo + n ≤ 16) (u v : Nat) :
    (u = bitsAt w 0 lo ∧ v = bitsAt w lo n) ↔
      u < 2 ^ lo ∧ v < 2 ^ n ∧ w = BitVec.ofNat 16 (u + 2 ^ lo * v) := by
  have high : w.toNat / 2 ^ lo < 2 ^ n := Nat.div_lt_of_lt_mul (by rwa [← Nat.pow_add])
  rw [bitsAt, bitsAt, Nat.pow_zero, Nat.div_one, Nat.mod_eq_of_lt high]
  constructor
  · rintro ⟨rfl, rfl⟩
    refine ⟨Nat.mod_lt _ (Nat.two_pow_pos lo), high, ?_⟩
    rw [Nat.mod_add_div, BitVec.ofNat_toNat, BitVec.setWidth_eq]
  · rintro ⟨low, short, spelt⟩
    have both : u + 2 ^ lo * v < 2 ^ (lo + n) := by
      rw [Nat.pow_add]
      calc u + 2 ^ lo * v < 2 ^ lo * (v + 1) := by rw [Nat.mul_succ]; omega
        _ ≤ 2 ^ lo * 2 ^ n := Nat.mul_le_mul_left _ short
    rw [(eq_ofNat_iff (both.trans_le (Nat.pow_le_pow_right (by decide) most)) w).1 spelt]
    exact ⟨by rw [Nat.add_mul_mod_self_left, Nat.mod_eq_of_lt low],
      by rw [Nat.add_mul_div_left _ _ (Nat.two_pow_pos lo), Nat.div_eq_of_lt low, Nat.zero_add]⟩

end

/-! ### The body words of a message -/

/-- Body words `i` to `i + n - 1`. -/
def RawMessage.wordsAt (m : RawMessage) (i n : Nat) : List Word := (List.range' i n).map m.word

/-- The body words from the `i`th on keep within these widths. -/
def RawMessage.Fits (m : RawMessage) : Nat → List Nat → Prop
  | _, [] => True
  | i, n :: widths => (m.word i).toNat < 2 ^ n ∧ m.Fits (i + 1) widths

section
variable {m : RawMessage}

theorem RawMessage.word_mark (marks : ∀ w ∈ m.body, w.getLsbD 15 = false) (i : Nat) :
    (m.word i).getLsbD 15 = false := by
  rw [RawMessage.word, List.getD_eq_getElem?_getD]
  cases at_i : m.body[i]? with
  | none => rfl
  | some w => exact marks w (List.mem_of_getElem? at_i)

theorem RawMessage.wordsAt_add (m : RawMessage) (i a b : Nat) :
    m.wordsAt i (a + b) = m.wordsAt i a ++ m.wordsAt (i + a) b := by
  rw [RawMessage.wordsAt, ← List.range'_append_1, List.map_append]
  rfl

theorem RawMessage.body_eq {n : Nat} (length : m.body.length = n) : m.body = m.wordsAt 0 n := by
  subst length
  refine List.ext_getElem (by simp [RawMessage.wordsAt]) fun i inside _ => ?_
  simp [RawMessage.wordsAt, RawMessage.word, inside]

theorem RawMessage.fits_append (m : RawMessage) (i : Nat) (a b : List Nat) :
    m.Fits i (a ++ b) ↔ m.Fits i a ∧ m.Fits (i + a.length) b := by
  induction a generalizing i with
  | nil => simp [RawMessage.Fits]
  | cons n a ih => simp [RawMessage.Fits, ih, and_assoc, Nat.add_assoc, Nat.add_comm 1]

theorem RawMessage.fits_iff (m : RawMessage) (i : Nat) (widths : List Nat) :
    m.Fits i widths ↔ ∀ j n, widths[j]? = some n → (m.word (i + j)).toNat < 2 ^ n := by
  induction widths generalizing i with
  | nil => simp [RawMessage.Fits]
  | cons n widths ih =>
    rw [RawMessage.Fits, ih]
    constructor
    · rintro ⟨head, tail⟩ j k at_j
      cases j with
      | zero => simpa [← Option.some.inj at_j] using head
      | succ j => simpa [Nat.add_assoc, Nat.add_comm 1] using tail j k at_j
    · exact fun fits => ⟨fits 0 n rfl, fun j k at_j => by
        simpa [Nat.add_assoc, Nat.add_comm 1] using fits (j + 1) k at_j⟩

/-- Every spare bit of the body words is 0 exactly when they keep within the widths of their fields. -/
theorem RawMessage.spareZero_iff {widths : List Nat} (marks : ∀ w ∈ m.body, w.getLsbD 15 = false)
    (length : m.body.length = widths.length) :
    m.SpareZero (widths.map lowBits) ↔ m.header &&& headerSpare m.kind = 0 ∧ m.Fits 0 widths := by
  rw [RawMessage.SpareZero, RawMessage.fits_iff]
  refine and_congr_right fun _ => ⟨fun zero j n width => ?_, fun fits j w f word field => ?_⟩
  · have inside : j < m.body.length := length ▸ (List.getElem?_eq_some_iff.1 width).1
    have word : m.body[j]? = some (m.word j) := by simp [RawMessage.word, inside]
    rw [Nat.zero_add]
    exact (masked_iff (m.word_mark marks j) n).1 (zero j _ _ word (by simp [width]))
  · obtain ⟨n, width, rfl⟩ := Option.map_eq_some_iff.1 (List.getElem?_map ▸ field)
    have fit := fits j n width
    rw [Nat.zero_add, RawMessage.word, List.getD_eq_getElem?_getD, word] at fit
    exact (masked_iff (marks w (List.mem_of_getElem? word)) n).2 fit

end

/-! ### The layouts of the kinds -/

/-- The widths of a message's body words, by its kind and its presence marks (Table 10-12). -/
inductive RawMessage.Layout (m : RawMessage) : List Nat → Prop
  | opportunity (kind : m.kind = 1) : m.Layout [15]
  | complete (kind : m.kind = 2) : m.Layout
      ([13, 15, 14] ++ List.replicate m.first.toNat 15 ++ List.replicate m.second.toNat 10)
  | heard (kind : m.kind = 3) : m.Layout ([12, 12, 12, 12, 3] ++ List.replicate m.first.toNat 15)
  | demand (kind : m.kind = 4) : m.Layout [10, 10]
  | quiet (kind : m.kind = 5) : m.Layout [1, 15]
  | resync (kind : m.kind = 6) : m.Layout []

theorem optional_lowBits (p : Bool) (n : Nat) :
    (if p then [lowBits n] else []) = (List.replicate p.toNat n).map lowBits := by
  cases p <;> rfl

theorem kind_of_toNat {kind : BitVec 4} {code : Nat} (is : kind.toNat = code) :
    kind = BitVec.ofNat 4 code := by
  rw [← is, BitVec.ofNat_toNat, BitVec.setWidth_eq]

/-- The fields of a kind are a layout's. -/
theorem RawMessage.exists_layout {m : RawMessage} {fields : List Word}
    (known : messageFields m.kind m.first m.second = some fields) :
    ∃ widths, fields = widths.map lowBits ∧ m.Layout widths := by
  rw [messageFields] at known
  split at known <;> cases known
  next kind => exact ⟨_, rfl, .opportunity (kind_of_toNat kind)⟩
  next kind =>
    refine ⟨_, ?_, .complete (kind_of_toNat kind)⟩
    rw [List.map_append, List.map_append, ← optional_lowBits, ← optional_lowBits]
    rfl
  next kind =>
    refine ⟨_, ?_, .heard (kind_of_toNat kind)⟩
    rw [List.map_append, ← optional_lowBits]
    rfl
  next kind => exact ⟨_, rfl, .demand (kind_of_toNat kind)⟩
  next kind => exact ⟨_, rfl, .quiet (kind_of_toNat kind)⟩
  next kind => exact ⟨_, rfl, .resync (kind_of_toNat kind)⟩

/-- The bits of the header that a kind leaves spare (Table 10-11). -/
theorem RawMessage.headerSpare_iff (m : RawMessage) : m.header &&& headerSpare m.kind = 0 ↔
    m.header.getLsbD 0 = false ∧ (m.kind ≠ 2 → (m.kind ≠ 3 → m.first = false) ∧ m.second = false) := by
  have marks : headerSpare m.kind = lowBits (if m.kind = 2 then 1 else if m.kind = 3 then 2 else 3) := by
    rw [headerSpare, apply_ite lowBits, apply_ite lowBits]
    rfl
  rw [marks, and_lowBits_iff (by split_ifs <;> decide), RawMessage.first, RawMessage.second]
  split_ifs <;> simp_all [List.range_succ, and_comm]

/-- The body word of an optional field keeps within its width where it is present. -/
theorem RawMessage.fits_optional (m : RawMessage) (i : Nat) (p : Bool) (n : Nat) :
    m.Fits i (List.replicate p.toNat n) ↔ (p = true → (m.word i).toNat < 2 ^ n) := by
  cases p <;> simp [RawMessage.Fits]

section
variable {m : RawMessage} {widths : List Nat}

theorem RawMessage.expectedWords_none (unknown : messageFields m.kind m.first m.second = none) :
    m.expectedWords = none := by
  rw [messageFields] at unknown
  rw [RawMessage.expectedWords]
  split at unknown <;> simp_all

theorem RawMessage.Layout.expectedWords (layout : m.Layout widths) :
    m.expectedWords = some widths.length := by
  cases layout with
  | complete kind | heard kind =>
    simp only [RawMessage.expectedWords, kind, List.length_append, List.length_replicate]
    rfl
  | opportunity kind | demand kind | quiet kind | resync kind =>
    rw [RawMessage.expectedWords, kind]
    rfl

theorem RawMessage.Layout.spareClear_iff (layout : m.Layout widths)
    (marks : ∀ w ∈ m.body, w.getLsbD 15 = false) :
    m.spareClear = true ↔ m.header &&& headerSpare m.kind = 0 ∧ m.Fits 0 widths := by
  have spare (i n : Nat) := spareFrom_iff (m.word_mark marks i) n
  have any (i : Nat) : (m.word i).toNat < 32768 :=
    (spare i 15).1 (by simp [spareFrom, bitsAt, Nat.mod_one])
  rw [m.headerSpare_iff, RawMessage.spareClear]
  cases layout with
  | opportunity kind | heard kind | demand kind | quiet kind | resync kind =>
    simp [kind, RawMessage.Fits, RawMessage.fits_optional, spare, any, and_assoc]
  | complete kind =>
    have optional (p : Prop) : (m.second = false ∨ p) ↔ (m.second = true → p) := by
      cases m.second <;> simp
    simp [kind, RawMessage.Fits, RawMessage.fits_append, RawMessage.fits_optional, spare, any, and_assoc,
      optional]

end

/-! ### The message it is -/

section
variable {m : RawMessage} {first second : Bool} {body : List Word} {b : MessageBody}

/-! What a message of each kind carries, when its fields pass the range checks. -/

theorem RawMessage.fields_opportunity (kind : m.kind = 1) : m.fields = some b ↔
    ∃ d, b = .opportunity d ∧ (d = 0 ∨ 100 ≤ d) ∧ d = bitsAt (m.word 0) 0 15 := by
  rw [RawMessage.fields, kind]
  simp [eq_comm, and_comm]

theorem RawMessage.fields_complete (kind : m.kind = 2) : m.fields = some b ↔
    ∃ c, b = .complete c ∧ (c.ticket ≤ 23 ∧ c.sent ≤ 64 ∧ c.acked ≤ c.sent ∧ c.rate.getD 0 ≤ 30000) ∧
      c = m.completion := by
  rw [RawMessage.fields, kind]
  simp [eq_comm, and_comm]

theorem RawMessage.fields_heard (kind : m.kind = 3) : m.fields = some b ↔
    ∃ h, b = .heard h ∧ h.rate.getD 0 ≤ 30000 ∧ h.address = m.address ∧
      (FrameKind.ofCode (bitsAt (m.word 4) 0 2) = some h.kind ∧
        h.psMark = if (m.word 4).getLsbD 2 then .asleep else .awake) ∧
      h.rate = if m.first then some (bitsAt (m.word 5) 0 15) else none := by
  rw [RawMessage.fields, kind]
  cases FrameKind.ofCode (bitsAt (m.word 4) 0 2) with
  | none => simp
  | some k =>
    refine Option.ite_none_right_eq_some.trans ⟨?_, ?_⟩
    · rintro ⟨range, found⟩
      exact ⟨_, (Option.some.inj found).symm, range, rfl, ⟨rfl, rfl⟩, rfl⟩
    · rintro ⟨⟨address, k, ps, rate⟩, rfl, range, rfl, ⟨⟨⟩, rfl⟩, rfl⟩
      exact ⟨range, rfl⟩

theorem RawMessage.fields_demand (kind : m.kind = 4) : m.fields = some b ↔
    ∃ h n, b = .demand h n ∧ h ≤ 639 ∧ h = bitsAt (m.word 0) 0 10 ∧ n = bitsAt (m.word 1) 0 10 := by
  rw [RawMessage.fields, kind]
  simp [eq_comm, and_comm]

theorem RawMessage.fields_quiet (kind : m.kind = 5) : m.fields = some b ↔
    ∃ d, b = .quiet d ∧ d = bitsAt (m.word 0) 0 1 * 2 ^ 15 + bitsAt (m.word 1) 0 15 := by
  rw [RawMessage.fields, kind]
  simp [eq_comm]

theorem RawMessage.fields_resync (kind : m.kind = 6) : m.fields = some b ↔ b = .resync := by
  rw [RawMessage.fields, kind]
  simp [eq_comm]

/-! The form of each kind (Table 10-12). -/

theorem MessageBody.form_opportunity : b.Form 1 first second body ↔
    ∃ d, b = .opportunity d ∧ (d = 0 ∨ 100 ≤ d) ∧ d ≤ 32767 ∧ body = [BitVec.ofNat 16 d] := by
  cases b <;> simp [MessageBody.Form]

theorem MessageBody.form_complete : b.Form 2 first second body ↔
    ∃ c, b = .complete c ∧ (MessageBody.complete c).Form 2 first second body := by
  cases b <;> simp [MessageBody.Form]

theorem MessageBody.form_heard : b.Form 3 first second body ↔
    ∃ h, b = .heard h ∧ (MessageBody.heard h).Form 3 first second body := by
  cases b <;> simp [MessageBody.Form]

theorem MessageBody.form_demand : b.Form 4 first second body ↔
    ∃ h n, b = .demand h n ∧ h ≤ 639 ∧ n ≤ 1023 ∧ body = [BitVec.ofNat 16 h, BitVec.ofNat 16 n] := by
  cases b <;> simp [MessageBody.Form]

theorem MessageBody.form_quiet : b.Form 5 first second body ↔
    ∃ d, b = .quiet d ∧ d ≤ 65535 ∧
      body = [BitVec.ofNat 16 (d / 2 ^ 15), BitVec.ofNat 16 (d % 2 ^ 15)] := by
  cases b <;> simp [MessageBody.Form]

theorem MessageBody.form_resync : b.Form 6 first second body ↔ b = .resync ∧ body = [] := by
  cases b <;> simp [MessageBody.Form]

end

/-! ### Fields and the words that spell them -/

section
variable {m : RawMessage}

theorem getD_le_iff (v : Option Nat) (most : Nat) : v.getD 0 ≤ most ↔ ∀ x, v = some x → x ≤ most := by
  cases v <;> simp

theorem RawMessage.optional_iff {p : Bool} {i n : Nat} (fits : p = true → (m.word i).toNat < 2 ^ n)
    (most : n ≤ 16) (v : Option Nat) :
    v = (if p then some (bitsAt (m.word i) 0 n) else none) ↔
      p = v.isSome ∧ (∀ x, v = some x → x < 2 ^ n) ∧
        m.wordsAt i p.toNat = v.toList.map (BitVec.ofNat 16) := by
  cases p with
  | false => cases v <;> simp [RawMessage.wordsAt]
  | true =>
    cases v with
    | none => simp
    | some v => simpa [RawMessage.wordsAt] using eq_field_iff (fits rfl) most v

theorem RawMessage.optional_length {p : Bool} {v : Option Nat} (present : p = v.isSome) (i : Nat) :
    (m.wordsAt i p.toNat).length = (v.toList.map (BitVec.ofNat 16)).length := by
  cases v <;> simp [RawMessage.wordsAt, present]

theorem RawMessage.completion_eq_iff (c : Completion) : c = m.completion ↔
    (c.ticket = bitsAt (m.word 0) 0 5 ∧ c.seq.toNat = bitsAt (m.word 0) 5 8) ∧
      c.used = bitsAt (m.word 1) 0 15 ∧
      (c.sent = bitsAt (m.word 2) 0 7 ∧ c.acked = bitsAt (m.word 2) 7 7) ∧
      (c.rate = if m.first then some (bitsAt (m.word 3) 0 15) else none) ∧
      c.backlog = if m.second then some (bitsAt (m.word (3 + m.first.toNat)) 0 10) else none := by
  obtain ⟨ticket, seq, used, sent, acked, rate, backlog⟩ := c
  have sequence : seq = BitVec.ofNat 8 (bitsAt (m.word 0) 5 8) ↔ seq.toNat = bitsAt (m.word 0) 5 8 := by
    rw [← BitVec.toNat_inj, BitVec.toNat_ofNat, Nat.mod_eq_of_lt (bitsAt_lt _ 5 8)]
  simp only [RawMessage.completion, Completion.mk.injEq, sequence, and_assoc]

/-- A COMPLETE's fields are those of the report that its words spell. -/
theorem RawMessage.completion_form_iff
    (length : m.body.length = 3 + m.first.toNat + m.second.toNat)
    (fits : m.Fits 0 ([13, 15, 14] ++ List.replicate m.first.toNat 15 ++ List.replicate m.second.toNat 10))
    (c : Completion) :
    (c.ticket ≤ 23 ∧ c.sent ≤ 64 ∧ c.acked ≤ c.sent ∧ c.rate.getD 0 ≤ 30000) ∧ c = m.completion ↔
      (MessageBody.complete c).Form 2 m.first m.second m.body := by
  simp only [RawMessage.fits_append, RawMessage.fits_optional, RawMessage.Fits] at fits
  obtain ⟨⟨⟨ticket, used, frames, -⟩, rate⟩, backlog⟩ := fits
  simp only [List.length_append, List.length_replicate, List.length_cons, List.length_nil, Nat.zero_add]
    at rate backlog
  have body : m.body = [m.word 0, m.word 1, m.word 2] ++ m.wordsAt 3 m.first.toNat ++
      m.wordsAt (3 + m.first.toNat) m.second.toNat := by
    rw [RawMessage.body_eq length, RawMessage.wordsAt_add, RawMessage.wordsAt_add, Nat.zero_add,
      Nat.zero_add]
    rfl
  rw [m.completion_eq_iff, eq_fields_iff ticket (by decide), eq_field_iff used (by decide),
    eq_fields_iff (lo := 7) frames (by decide), RawMessage.optional_iff rate (by decide),
    RawMessage.optional_iff backlog (by decide), getD_le_iff, MessageBody.Form, body]
  constructor
  · rintro ⟨⟨ticketRange, sentRange, ackedRange, rateRange⟩, ⟨-, -, ticketLaid⟩, ⟨usedRange, usedLaid⟩,
      ⟨-, -, framesLaid⟩, ⟨ratePresent, -, rateLaid⟩, backlogPresent, backlogRange, backlogLaid⟩
    refine ⟨rfl, ratePresent, backlogPresent, ticketRange, Nat.le_of_lt_succ usedRange, sentRange,
      ackedRange, rateRange, fun n some => Nat.le_of_lt_succ (backlogRange n some), ?_⟩
    rw [rateLaid, backlogLaid, ticketLaid, usedLaid, framesLaid]
    rfl
  · rintro ⟨-, ratePresent, backlogPresent, ticketRange, usedRange, sentRange, ackedRange, rateRange,
      backlogRange, laid⟩
    obtain ⟨front, backlogLaid⟩ := List.append_inj' laid (RawMessage.optional_length backlogPresent _)
    obtain ⟨words, rateLaid⟩ := List.append_inj' front (RawMessage.optional_length ratePresent _)
    simp only [List.cons.injEq, and_true] at words
    obtain ⟨ticketLaid, usedLaid, framesLaid⟩ := words
    exact ⟨⟨ticketRange, sentRange, ackedRange, rateRange⟩, ⟨by omega, c.seq.isLt, ticketLaid⟩,
      ⟨by omega, usedLaid⟩, ⟨by omega, by omega, framesLaid⟩,
      ⟨ratePresent, fun r some => (rateRange r some).trans_lt (by decide), rateLaid⟩,
      backlogPresent, fun n some => (backlogRange n some).trans_lt (by decide), backlogLaid⟩

/-- A HEARD's frame kind and ps mark in their body word (R187). -/
def Hearing.marks (kind : FrameKind) (ps : PsMark) : Word :=
  (match kind with
    | .mgmt => 0
    | .data => 1
    | .ctrl => 2) + (match ps with
    | .awake => 0
    | .asleep => 4)

theorem Hearing.marks_iff {w : Word} (fits : w.toNat < 2 ^ 3) (kind : FrameKind) (ps : PsMark) :
    (FrameKind.ofCode (bitsAt w 0 2) = some kind ∧ ps = if w.getLsbD 2 then .asleep else .awake) ↔
      w = Hearing.marks kind ps := by
  obtain ⟨n, rfl⟩ : ∃ n : Fin 8, w = BitVec.ofNat 16 n := ⟨⟨w.toNat, fits⟩, by simp⟩
  revert n
  cases kind <;> cases ps <;> decide

/-- An address and the four words of 12 bits that spell it (R187). -/
theorem RawMessage.address_iff (fits : m.Fits 0 [12, 12, 12, 12]) (a : Address) :
    a = m.address ↔ m.wordsAt 0 4 = addressWords a := by
  simp only [RawMessage.Fits, Nat.reduceAdd] at fits
  obtain ⟨w0, w1, w2, w3, -⟩ := fits
  rw [RawMessage.address, bitsAt_zero w0, bitsAt_zero w1, bitsAt_zero w2, bitsAt_zero w3,
    ← BitVec.toNat_inj, BitVec.toNat_ofNat, Nat.mod_eq_of_lt (by omega)]
  have words : m.wordsAt 0 4 = [m.word 0, m.word 1, m.word 2, m.word 3] := rfl
  rw [words, addressWords, List.cons.injEq, List.cons.injEq, List.cons.injEq, List.cons.injEq,
    eq_ofNat_iff (by omega), eq_ofNat_iff (by omega), eq_ofNat_iff (by omega), eq_ofNat_iff (by omega),
    eq_self, and_true]
  omega

/-- A HEARD's fields are those of the hearing that its words spell. -/
theorem RawMessage.hearing_form_iff (length : m.body.length = 5 + m.first.toNat)
    (fits : m.Fits 0 ([12, 12, 12, 12, 3] ++ List.replicate m.first.toNat 15)) (h : Hearing) :
    (h.rate.getD 0 ≤ 30000 ∧ h.address = m.address ∧
      (FrameKind.ofCode (bitsAt (m.word 4) 0 2) = some h.kind ∧
        h.psMark = if (m.word 4).getLsbD 2 then .asleep else .awake) ∧
      h.rate = if m.first then some (bitsAt (m.word 5) 0 15) else none) ↔
      (MessageBody.heard h).Form 3 m.first m.second m.body := by
  obtain ⟨⟨w0, w1, w2, w3, marks, -⟩, rate⟩ := (m.fits_append 0 [12, 12, 12, 12, 3] _).1 fits
  replace rate := (m.fits_optional 5 _ _).1 rate
  have address : m.Fits 0 [12, 12, 12, 12] := ⟨w0, w1, w2, w3, trivial⟩
  have body : m.body = m.wordsAt 0 4 ++ [m.word 4] ++ m.wordsAt 5 m.first.toNat := by
    rw [RawMessage.body_eq length, RawMessage.wordsAt_add]
    rfl
  have form : (MessageBody.heard h).Form 3 m.first m.second m.body ↔
      m.first = h.rate.isSome ∧ (∀ r, h.rate = some r → r ≤ 30000) ∧
        m.wordsAt 0 4 ++ [m.word 4] ++ m.wordsAt 5 m.first.toNat = addressWords h.address ++
          [Hearing.marks h.kind h.psMark] ++ h.rate.toList.map (BitVec.ofNat 16) := by
    rw [MessageBody.Form, ← body, addressWords_eq]
    exact and_iff_right rfl
  rw [form, RawMessage.address_iff address, Hearing.marks_iff marks, RawMessage.optional_iff rate (by decide),
    getD_le_iff]
  constructor
  · rintro ⟨range, addressLaid, marksLaid, present, -, rateLaid⟩
    exact ⟨present, range, by rw [addressLaid, ← marksLaid, rateLaid]⟩
  · rintro ⟨present, range, laid⟩
    obtain ⟨front, rateLaid⟩ := List.append_inj' laid (RawMessage.optional_length present _)
    obtain ⟨addressLaid, marksLaid⟩ := List.append_inj' front rfl
    exact ⟨range, addressLaid, List.singleton_inj.1 marksLaid, present,
      fun r some => (range r some).trans_lt (by decide), rateLaid⟩

/-- A DEMAND's handle and backlog and their words (R187). -/
theorem RawMessage.demand_iff (fits : m.Fits 0 [10, 10]) (h n : Nat) :
    (h ≤ 639 ∧ h = bitsAt (m.word 0) 0 10 ∧ n = bitsAt (m.word 1) 0 10) ↔
      h ≤ 639 ∧ n ≤ 1023 ∧ m.wordsAt 0 2 = [BitVec.ofNat 16 h, BitVec.ofNat 16 n] := by
  obtain ⟨handle, backlog, -⟩ := fits
  have words : m.wordsAt 0 2 = [m.word 0, m.word 1] := rfl
  rw [eq_field_iff handle (by decide), eq_field_iff backlog (by decide), words, List.cons.injEq,
    List.cons.injEq, eq_self, and_true]
  constructor
  · rintro ⟨range, ⟨-, handleLaid⟩, backlogRange, backlogLaid⟩
    exact ⟨range, Nat.le_of_lt_succ backlogRange, handleLaid, backlogLaid⟩
  · rintro ⟨range, backlogRange, handleLaid, backlogLaid⟩
    exact ⟨range, ⟨by omega, handleLaid⟩, by omega, backlogLaid⟩

/-- A QUIET's duration and its words (R187). -/
theorem RawMessage.duration_iff (fits : m.Fits 0 [1, 15]) (d : Nat) :
    d = bitsAt (m.word 0) 0 1 * 2 ^ 15 + bitsAt (m.word 1) 0 15 ↔
      d ≤ 65535 ∧ m.wordsAt 0 2 = [BitVec.ofNat 16 (d / 2 ^ 15), BitVec.ofNat 16 (d % 2 ^ 15)] := by
  simp only [RawMessage.Fits, Nat.reduceAdd] at fits
  obtain ⟨high, low, -⟩ := fits
  have words : m.wordsAt 0 2 = [m.word 0, m.word 1] := rfl
  rw [bitsAt_zero high, bitsAt_zero low, words, List.cons.injEq, List.cons.injEq]
  constructor
  · rintro rfl
    rw [eq_ofNat_iff (by omega), eq_ofNat_iff (by omega), eq_self, and_true]
    omega
  · rintro ⟨range, highLaid, lowLaid, -⟩
    rw [eq_ofNat_iff (by omega)] at highLaid lowLaid
    omega

/-! ### The checks (O17) -/

/-- The message of a layout without spare bits is the one whose form its words have (Tables 8-3, 10-12). -/
theorem RawMessage.Layout.fields_iff {widths : List Nat} (layout : m.Layout widths)
    (length : m.body.length = widths.length) (fits : m.Fits 0 widths) (b : MessageBody) :
    m.fields = some b ↔ b.Form m.kind m.first m.second m.body := by
  cases layout with
  | opportunity kind =>
    rw [RawMessage.fields_opportunity kind, kind, MessageBody.form_opportunity, RawMessage.body_eq length]
    refine exists_congr fun d => and_congr_right fun _ => and_congr_right fun _ => ?_
    rw [eq_field_iff fits.1 (by decide)]
    simp [RawMessage.wordsAt, Nat.lt_succ_iff]
  | complete kind =>
    rw [RawMessage.fields_complete kind, kind, MessageBody.form_complete]
    rw [List.length_append, List.length_append, List.length_replicate, List.length_replicate] at length
    exact exists_congr fun c => and_congr_right fun _ => RawMessage.completion_form_iff length fits c
  | heard kind =>
    rw [RawMessage.fields_heard kind, kind, MessageBody.form_heard]
    rw [List.length_append, List.length_replicate] at length
    exact exists_congr fun h => and_congr_right fun _ => RawMessage.hearing_form_iff length fits h
  | demand kind =>
    rw [RawMessage.fields_demand kind, kind, MessageBody.form_demand, RawMessage.body_eq length]
    exact exists_congr fun h => exists_congr fun n => and_congr_right fun _ =>
      RawMessage.demand_iff fits h n
  | quiet kind =>
    rw [RawMessage.fields_quiet kind, kind, MessageBody.form_quiet, RawMessage.body_eq length]
    exact exists_congr fun d => and_congr_right fun _ => RawMessage.duration_iff fits d
  | resync kind =>
    rw [RawMessage.fields_resync kind, kind, MessageBody.form_resync, RawMessage.body_eq length]
    exact (and_iff_left rfl).symm

/-- The checks of form behind KIND, of a kind with this layout. -/
theorem RawMessage.Layout.check_eq {widths : List Nat} (layout : m.Layout widths) : m.check =
    if declaredWords m.header ≠ widths.length ∨ m.body.length ≠ declaredWords m.header then .error .length
    else if !m.spareClear then .error .spare
    else m.fields.elim (.error .range) .ok := by
  rw [RawMessage.check, layout.expectedWords]
  cases m.fields <;> rfl

end

theorem RawMessage.kind_toNat (m : RawMessage) : m.kind.toNat = m.header.toNat / 2 ^ 11 % 16 :=
  (BitVec.toNat_ofNat _ 4).trans (Nat.mod_mod _ 16)

theorem RawMessage.tag_toNat (m : RawMessage) : m.tag.toNat = m.header.toNat / 2 ^ 7 % 16 :=
  (BitVec.toNat_ofNat _ 4).trans (Nat.mod_mod _ 16)

/-- Settles O17: the checks of form are those of the kind's layout, each made where those before it passed. -/
theorem messagesChecked : Obligations.MessagesChecked := by
  refine fun m marks => ⟨m.kind_toNat, m.tag_toNat, rfl, rfl, rfl, fun unknown => ?_, fun fields known => ?_⟩
  · rw [RawMessage.check, RawMessage.expectedWords_none unknown]
  · obtain ⟨widths, rfl, layout⟩ := RawMessage.exists_layout known
    rw [List.length_map]
    refine ⟨fun other => ?_, fun declared length => ?_⟩
    · rw [layout.check_eq, if_pos (by omega)]
    · rw [layout.check_eq, if_neg (by omega), RawMessage.spareZero_iff marks length]
      have spare := layout.spareClear_iff marks
      refine ⟨fun set => ?_, fun zero => ?_⟩
      · rw [← spare] at set
        simp [set]
      · have form := layout.fields_iff length zero.2
        have clear : (!m.spareClear) = false := by simp [spare.2 zero]
        refine ⟨fun b => ?_, fun formless => ?_⟩
        · rw [← form b]
          cases m.fields <;> simp [clear]
        · have out : m.fields = none := Option.eq_none_iff_forall_ne_some.2 fun b found =>
            formless b ((form b).1 found)
          simp [clear, out]

end Sys2Proof.Machine
end

section
/-! PROOF. The Notice Queue: its resets, a notice offered to it, and FETCH_NOTICES (O10, O56, O55). -/

namespace Sys2Proof.Machine

/-! ### Resets (O10) -/

/-- A state whose notices, settings and time are those of reset has what R176 asks of a reset. -/
theorem UnchangedExcept.noticesReset {parts : List Part} {t : State}
    (frame : UnchangedExcept parts State.reset t) (notices : Part.notices ∉ parts := by decide)
    (settings : Part.settings ∉ parts := by decide) (time : Part.time ∉ parts := by decide) :
    t.notices.queue = [] ∧ t.notices.overflow = false ∧ t.notices.timer = none ∧ t.notices.attn = false ∧
      t.settings.notice.coalesceCount = 4 ∧ t.settings.notice.coalesceTime = 50 ∧ t.time.ms = 0 := by
  rw [frame.notices notices, frame.settings settings, frame.time time]
  exact ⟨rfl, rfl, rfl, rfl, rfl, rfl, rfl⟩

/-- Settles O10: the frames of both resets (O9, O11) give the notices, the settings and the time their reset
values. -/
theorem resetsNoticeQueue : Obligations.ResetsNoticeQueue := by
  refine ⟨fun s powerOn pin holds => ?_, fun s ready => ?_⟩
  · obtain ⟨t, ran, -, blocks, -⟩ := hardReset s powerOn pin
    exact ⟨t, ran, (blocks holds).2.noticesReset⟩
  · obtain ⟨t, ran, -, -, -, -, frame⟩ := resetFull s ready
    exact ⟨t, ran, frame.noticesReset⟩

/-! ### A notice offered (O56) -/

section
variable {q : NoticeQueue} {c : NoticeSettings} {n : Notice}

theorem NoticeQueue.append_of_full (full : 32 ≤ q.queue.length) :
    q.append c n = { q with overflow := true } :=
  if_pos full

section
variable (room : q.queue.length < 32)
include room

/-- With ATTN asserted a notice only joins the tail (R173). -/
theorem NoticeQueue.append_of_asserted (asserted : q.attn = true) :
    q.append c n = { q with queue := q.queue ++ [n] } := by
  rw [NoticeQueue.append, if_neg (Nat.not_le.2 room), if_pos asserted]

theorem NoticeQueue.append_of_reached (released : q.attn = false)
    (reached : c.coalesceCount ≤ q.queue.length + 1) :
    q.append c n = { q with queue := q.queue ++ [n], attn := true, timer := none } := by
  rw [NoticeQueue.append, if_neg (Nat.not_le.2 room), if_neg (Bool.eq_false_iff.1 released), if_pos reached]

/-- Below the coalesce count the first notice starts the timer, and a later one lets it run on (R173). -/
theorem NoticeQueue.append_of_below (released : q.attn = false)
    (below : q.queue.length + 1 < c.coalesceCount) :
    q.append c n = { q with
      queue := q.queue ++ [n]
      timer := if q.queue.length = 0 then some (c.coalesceTime * 1000) else q.timer } := by
  rw [NoticeQueue.append, if_neg (Nat.not_le.2 room), if_neg (Bool.eq_false_iff.1 released),
    if_neg (Nat.not_le.2 below)]
  cases q.queue <;> rfl

/-- Where there is room the notice joins the tail, whatever becomes of the timer and ATTN (R171). -/
theorem NoticeQueue.append_joins :
    (q.append c n).queue = q.queue ++ [n] ∧ (q.append c n).overflow = q.overflow := by
  cases attn : q.attn with
  | true => simp [NoticeQueue.append_of_asserted room attn]
  | false =>
    rcases Nat.lt_or_ge (q.queue.length + 1) c.coalesceCount with below | reached
    · simp [NoticeQueue.append_of_below room attn below]
    · simp [NoticeQueue.append_of_reached room attn reached]

end
end

theorem State.notify_frame (s : State) (b : NoticeBody) : UnchangedExcept [.notices] s (s.notify b) :=
  .of_parts fun p => by cases p <;> simp [Part.Same]

/-- Settles O56: by the room in the queue, ATTN, and the coalesce count. -/
theorem noticeOffered : Obligations.NoticeOffered := by
  refine fun s b => ⟨s.notify_frame b, fun full => NoticeQueue.append_of_full full, fun room => ?_⟩
  obtain ⟨joined, mark⟩ := NoticeQueue.append_joins (c := s.settings.notice) (n := ⟨s.time.ms, b⟩) room
  rw [State.notify_notices]
  refine ⟨joined, mark, fun asserted => ?_, fun released reached => ?_, fun released below first => ?_,
    fun released below later => ?_⟩
  · rw [NoticeQueue.append_of_asserted room asserted]
    exact ⟨asserted, rfl⟩
  · rw [NoticeQueue.append_of_reached room released reached]
    exact ⟨rfl, rfl⟩
  · rw [NoticeQueue.append_of_below room released below]
    exact ⟨released, if_pos first⟩
  · rw [NoticeQueue.append_of_below room released below]
    exact ⟨released, if_neg later.ne'⟩

/-! ### FETCH_NOTICES (O55) -/

section
variable {q : NoticeQueue} {c : NoticeSettings} {n : Nat}

theorem NoticeQueue.fetched_of_none_left (empty : (q.fetched c n).queue = []) :
    (q.fetched c n).attn = false ∧ (q.fetched c n).timer = none := by
  have left : q.queue.drop n = [] := empty
  simp [NoticeQueue.fetched, left]

theorem NoticeQueue.fetched_of_below (some_left : (q.fetched c n).queue ≠ [])
    (below : (q.fetched c n).queue.length < c.coalesceCount) :
    (q.fetched c n).attn = false ∧ (q.fetched c n).timer = some (c.coalesceTime * 1000) := by
  have left : (q.queue.drop n).isEmpty = false := List.isEmpty_eq_false_iff.2 some_left
  have count : decide (c.coalesceCount ≤ (q.queue.drop n).length) = false :=
    decide_eq_false (Nat.not_le.2 below)
  simp only [NoticeQueue.fetched, left, count]
  exact ⟨rfl, rfl⟩

/-- A coalesce count in range is reached by a queue that is not empty only. -/
theorem NoticeQueue.fetched_of_reached (pos : 1 ≤ c.coalesceCount)
    (reached : c.coalesceCount ≤ (q.fetched c n).queue.length) :
    (q.fetched c n).attn = true ∧ (q.fetched c n).timer = none := by
  have left : (q.queue.drop n).isEmpty = false :=
    List.isEmpty_eq_false_iff.2 (List.ne_nil_of_length_pos (pos.trans reached))
  have count : decide (c.coalesceCount ≤ (q.queue.drop n).length) = true := decide_eq_true reached
  simp only [NoticeQueue.fetched, left, count]
  exact ⟨rfl, rfl⟩

end

/-- Settles O55: the answer is read off the queue before the removal, and the number left sets ATTN and the
timer. -/
theorem fetchNotices : Obligations.FetchNotices := by
  refine fun s maximum working pos => ⟨_, s.notices.queue.take maximum,
    State.inHostRequest_working working _, .of_frame ?_ _, (List.take_append_drop _ _).symm,
    List.length_take, rfl, NoticeQueue.fetched_of_none_left, NoticeQueue.fetched_of_below,
    NoticeQueue.fetched_of_reached pos⟩
  exact .of_parts fun p => by cases p <;> simp [Part.Same]

end Sys2Proof.Machine
end

section
/-! PROOF. The Request Port: the edges of CSn, and the transactions SUBMIT, COLLECT and status only (O35,
O36, O39, O40). -/

namespace Sys2Proof.Machine

/-! ### The edges of CSn (O35) -/

/-- The part with another Request Port. -/
def State.withReq (s : State) (q : RequestPort) : State := { s with req := q }

@[simp] theorem State.withReq_req (s : State) (q : RequestPort) : (s.withReq q).req = q := rfl

theorem State.withReq_frame (s : State) (q : RequestPort) : UnchangedExcept [.req] s (s.withReq q) :=
  .of_parts fun p => by cases p <;> simp [Part.Same, State.withReq]

theorem RequestPort.fall_eq (q : RequestPort) :
    q.fall = if q.csnSeen = true ∧ q.csn = none then { q with csn := some q.port.status } else q := by
  rw [RequestPort.fall.eq_def]
  split
  · rename_i seen high
    exact (if_pos ⟨seen, high⟩).symm
  · rename_i other
    exact (if_neg fun follows => other follows.1 follows.2).symm

theorem State.spi_fall (s : State) (f : PortStatus → State → State) :
    s.spi .fall f = s.withReq s.req.fall := rfl

/-- A rise with nothing latched, and a fall and rise on a link not yet followed, end without effect
(R181). -/
theorem State.spi_unlatched {s : State} {span : SpiSpan}
    (edge : span = .rise ∨ (span = .whole ∧ s.req.csnSeen = false)) (high : s.req.csn = none)
    (f : PortStatus → State → State) : s.spi span f = s.withReq (s.req.risen []) := by
  rcases edge with rfl | ⟨rfl, unseen⟩
  · simp [State.spi, high, State.withReq, RequestPort.rise, RequestPort.risen]
  · simp [State.spi, RequestPort.fall_eq, unseen, high, State.withReq, RequestPort.rise, RequestPort.risen]

/-- A transaction that ends is judged by the state latched, on a port that its rise leaves as a rise of the
port before its fall (R177). -/
theorem State.spi_of_ends_rise {s : State} {span : SpiSpan} {p : PortStatus} (ends : EndsLatched s span p)
    (f : PortStatus → State → State) :
    ∃ q, s.spi span f = f p (s.withReq q) ∧ q.port = s.req.port ∧
      ∀ miso, q.rise miso = s.req.risen miso := by
  obtain ⟨q, judged, port⟩ := State.spi_of_ends ends f
  exact ⟨q, judged, port, fun _ => by rw [RequestPort.rise, RequestPort.risen, port]⟩

/-- Settles O35: every command of an edge is its transaction on the link, whatever it does at its end. -/
theorem linkFooting : Obligations.LinkFooting := by
  intro s bytes d n k free
  have ran (f : PortStatus → State → State) (span : SpiSpan) :
      s.unlessReset (·.spi span f) = .next (s.spi span f) := State.unlessReset_free free _
  refine ⟨fun c edge => ?_, fun span edge high c mem => ?_,
    ⟨s.withReq { s.req with csnSeen := true }, ?_, s.withReq_frame _, rfl⟩⟩
  · refine ⟨s.withReq s.req.fall, ?_, s.withReq_frame _, s.req.fall_eq⟩
    simp only [List.mem_cons, List.not_mem_nil, or_false] at edge
    rcases edge with rfl | rfl | rfl
    all_goals exact (ran _ .fall).trans (congrArg _ (s.spi_fall _))
  · refine ⟨s.withReq (s.req.risen []), ?_, s.withReq_frame _, rfl⟩
    simp only [List.mem_cons, List.not_mem_nil, or_false] at mem
    rcases mem with rfl | rfl | rfl
    all_goals exact (ran _ span).trans (congrArg _ (State.spi_unlatched edge high _))
  · rw [exec, execCsnSeenHigh, State.unlessReset_free free]
    rfl

/-! ### Transactions that only report status (O40) -/

theorem execStatusOnly_ends {s : State} {span : SpiSpan} {p : PortStatus} (free : s.inReset = false)
    (ends : EndsLatched s span p) (d : Option Byte) (n : Nat) :
    exec (.statusOnlyTransaction span d n) s =
      .next (s.withReq (s.req.risen (if d.isNone then [] else p.byte :: List.replicate n 0))) := by
  rw [exec, execStatusOnlyTransaction, State.unlessReset_free free]
  obtain ⟨q, judged, -, risen⟩ := State.spi_of_ends_rise ends _
  rw [judged, ← risen]
  rfl

/-- Settles O40: the bytes clocked out are the status byte of Table 10-3 and zeros. -/
theorem statusOnly : Obligations.StatusOnly := by
  refine fun s span d n p free ends =>
    ⟨_, execStatusOnly_ends free ends d n, s.withReq_frame _, ?_, fun some => ⟨p.byte, ?_, ?_⟩⟩
  · rintro rfl
    rfl
  · rw [State.withReq_req, if_neg (by simpa using some)]
  · cases p <;> simp [PortStatus.byte]

/-! ### COLLECT (O39) -/

theorem collected_eq (frame : List Byte) (n : Nat) : collected frame n = clockedOut frame n := by
  refine List.ext_getElem (by simp [collected, clockedOut]; omega) fun i _ short => ?_
  have before : i < n := by simpa [clockedOut] using short
  rcases Nat.lt_or_ge i frame.length with within | past
  · simp [collected, clockedOut, within, before]
  · simp [collected, clockedOut, past]

/-- COLLECT from a port that holds an answer, and did as CSn fell: the answer frame is clocked out, and an
answer read to its end leaves the buffer (R180). -/
theorem execCollect_ready {s : State} {span : SpiSpan} (free : s.inReset = false)
    (ends : EndsLatched s span .answerReady) {a : HostAnswer} (ready : s.req.port = .answerReady a)
    (n k : Nat) :
    let q := s.req.risen (PortStatus.answerReady.byte :: clockedOut a.frame n)
    exec (.collect span n k) s =
      .next (s.withReq (if a.frame.length ≤ n then { q with port := .idle } else q)) := by
  rw [exec, execCollect, State.unlessReset_free free]
  obtain ⟨u, judged, port, risen⟩ := State.spi_of_ends_rise ends _
  rw [judged]
  simp only [State.withReq_req, port.trans ready, risen, collected_eq]
  split <;> rfl

/-- COLLECT without an answer in the buffer, now or as CSn fell, clocks out the empty answer (R180). -/
theorem execCollect_empty {s : State} {span : SpiSpan} {p : PortStatus} (free : s.inReset = false)
    (ends : EndsLatched s span p) (empty : p ≠ .answerReady ∨ ∀ a, s.req.port ≠ .answerReady a)
    (n k : Nat) : exec (.collect span n k) s =
      .next (s.withReq (s.req.risen (p.byte :: clockedOut noAnswerFrame n))) := by
  rw [exec, execCollect, State.unlessReset_free free]
  obtain ⟨u, judged, port, risen⟩ := State.spi_of_ends_rise ends _
  rw [judged]
  simp only [State.withReq_req, risen, collected_eq]
  split
  · rename_i a ready
    exact absurd empty (by simp [← port, ready])
  · rfl

/-- Settles O39: by whether the port holds an answer, and did as CSn fell. -/
theorem collect : Obligations.Collect := by
  intro s span n k p free ends
  by_cases ready : p = .answerReady ∧ ∃ a, s.req.port = .answerReady a
  · obtain ⟨rfl, a, held⟩ := ready
    refine ⟨_, execCollect_ready free ends held n k, s.withReq_frame _, fun b _ held' => ?_,
      fun empty => absurd empty (by simp [held])⟩
    obtain rfl : a = b := by simpa [held] using held'
    refine ⟨fun whole => ?_, fun part => ?_⟩
    · rw [if_pos (show a.frame.length ≤ n from whole)]
      exact ⟨rfl, rfl⟩
    · rw [if_neg (show ¬ a.frame.length ≤ n from part.not_ge)]
      exact ⟨rfl, by simp [State.rdy, RequestPort.risen, held]⟩
  · have empty : p ≠ .answerReady ∨ ∀ a, s.req.port ≠ .answerReady a := by
      rwa [not_and_or, not_exists] at ready
    exact ⟨_, execCollect_empty free ends empty n k, s.withReq_frame _,
      fun a latched held => absurd ⟨latched, a, held⟩ ready, fun _ => rfl⟩

/-! ### SUBMIT (O36) -/

theorem crc8_concat (bytes : List Byte) (b : Byte) :
    crc8 (bytes ++ [b]) = crcShift^[8] (crc8 bytes ^^^ b) := by
  rw [crc8, List.foldl_append]
  rfl

theorem Request.usesTable_iff (r : Request) :
    r.usesTable = true ↔ r.command ∈ [Instr.admitStation, .amend, .retire, .lookup, .readRecord,
      .list, .readTickets, .setClass, .setTierWrite, .setTierInvalidate, .setScheduler, .resetFull,
      .resetAccounts] ∨
    r = .readSettings .classes ∨ r = .readSettings .tiers ∨ r = .readSettings .scheduler := by
  cases r
  case readSettings g => cases g <;> simp [Request.usesTable, Request.command, Group.usesTable]
  all_goals simp [Request.usesTable, Request.command]

/-- What follows a code and a length is their body and check byte, unless the frame is malformed (R178). -/
theorem soundFrame_of_not_malformed {code len : Byte} {rest : List Byte}
    (whole : frameMalformed code len rest = false) : SoundFrame (code :: len :: rest) code rest.dropLast := by
  simp only [frameMalformed, Bool.or_eq_false_iff, decide_eq_false_iff_not, bne_eq_false_iff_eq, Nat.not_lt]
    at whole
  obtain ⟨⟨short, length⟩, check⟩ := whole
  refine ⟨len, short, by simp [length], ?_⟩
  rw [List.dropLast_append_getLast? _ check]

section
variable {s : State} {bytes body : List Byte} {code : Byte}

theorem State.takeFrame_of_short (short : bytes.length < 2) : s.takeFrame bytes = s := by
  match bytes with
  | [] | [_] => rfl
  | _ :: _ :: _ => simp at short

theorem State.takeFrame_malformed (long : 2 ≤ bytes.length)
    (unsound : ¬ ∃ code body, SoundFrame bytes code body) :
    s.takeFrame bytes = s.hostAnswer .checkFailed := by
  match bytes with
  | [] | [_] => simp at long
  | code :: len :: rest =>
    have malformed : frameMalformed code len rest = true :=
      Bool.eq_true_of_not_eq_false fun whole => unsound ⟨_, _, soundFrame_of_not_malformed whole⟩
    rw [State.takeFrame, if_pos malformed]

theorem State.takeFrame_unknownRequest (sound : SoundFrame bytes code body)
    (unknown : parseRequest s.settings code.toNat body = none) :
    s.takeFrame bytes = s.hostAnswer .unknownRequest := by
  obtain ⟨len, short, length, rfl⟩ := sound
  simp only [State.takeFrame, frameMalformed_sound short length, List.dropLast_concat, unknown]
  rfl

theorem State.takeFrame_taken {r : Request} (sound : SoundFrame bytes code body)
    (parsed : parseRequest s.settings code.toNat body = some (some r)) :
    s.takeFrame bytes = s.startRequest r := by
  obtain ⟨len, short, length, rfl⟩ := sound
  simp only [State.takeFrame, frameMalformed_sound short length, List.dropLast_concat, parsed]
  rfl

/-- A SUBMIT that ends clocks out the status byte and zeros, and its frame is taken by a port that is IDLE and
was as CSn fell (R178). -/
theorem execSubmit_ends {span : SpiSpan} {p : PortStatus} (free : s.inReset = false)
    (ends : EndsLatched s span p) (bytes : List Byte) (k : Nat) :
    let u := s.withReq (s.req.risen (p.byte :: List.replicate bytes.length 0))
    exec (.submit span bytes k) s =
      .next (if p = .idle ∧ s.req.port = .idle then u.takeFrame bytes else u) := by
  rw [exec, execSubmit, State.unlessReset_free free]
  obtain ⟨q, judged, port, risen⟩ := State.spi_of_ends_rise ends _
  rw [judged]
  simp only [State.withReq_req, risen, port]
  split
  · rename_i idle
    rw [if_pos ⟨rfl, idle⟩]
    rfl
  · rename_i other
    rw [if_neg fun idle => other idle.1 idle.2]
    rfl

theorem execSubmit_idle {span : SpiSpan} (free : s.inReset = false) (ends : EndsLatched s span .idle)
    (idle : s.req.port = .idle) (bytes : List Byte) (k : Nat) :
    exec (.submit span bytes k) s = .next (State.takeFrame
      (s.withReq (s.req.risen (PortStatus.idle.byte :: List.replicate bytes.length 0))) bytes) := by
  rw [execSubmit_ends free ends bytes k, if_pos ⟨rfl, idle⟩]

end

theorem State.withReq_hostAnswer (s : State) (q : RequestPort) (a : HostAnswer) :
    (s.withReq q).hostAnswer a = s.withReq { q with port := .answerReady a } := rfl

theorem State.startRequest_req (s : State) (r : Request) :
    (s.startRequest r).req = { s.req with port := .working r } := by
  rw [State.startRequest]
  split <;> simp

theorem State.startRequest_tableless {s : State} {r : Request} (tableless : r.usesTable = false) :
    s.startRequest r = s.withReq { s.req with port := .working r } := by
  rw [State.startRequest, tableless]
  rfl

theorem State.startRequest_asked {r : Request} (table : r.usesTable = true) (s : State) (q : RequestPort) :
    TableAsked s ((s.withReq q).startRequest r) .requestEngine ∧
      UnchangedExcept [.req, .arbiter] s ((s.withReq q).startRequest r) := by
  rw [State.startRequest, if_pos table]
  refine ⟨?_, .of_parts fun p => by cases p <;> simp [Part.Same, State.withReq]⟩
  cases holder : s.arbiter.holder with
  | none => simp [TableAsked, State.ask, State.withReq, holder]
  | some c => simp [TableAsked, State.ask, State.withReq, holder]

/-- Settles O36: a frame is discarded, or judged by an IDLE port as it is cut short, malformed, unknown,
refused or taken. -/
theorem submit : Obligations.Submit := by
  refine ⟨⟨rfl, by decide +kernel, crc8_concat⟩, Request.usesTable_iff,
    ⟨rfl, fun _ => rfl, fun _ => rfl, fun _ => rfl, fun _ => rfl, fun _ => rfl, fun _ => rfl, fun _ => rfl⟩,
    ?_, ?_⟩
  · intro s span bytes k p free ends q
    have answered {a : HostAnswer} (latched : p = .idle) (idle : s.req.port = .idle)
        (judged : (s.withReq q).takeFrame bytes = (s.withReq q).hostAnswer a) :
        ∃ t, exec (.submit span bytes k) s = .next t ∧ t.req = { q with port := .answerReady a } ∧
          UnchangedExcept [.req] s t := by
      subst latched
      refine ⟨_, (execSubmit_idle free ends idle bytes k).trans (congrArg _ judged), rfl, ?_⟩
      rw [State.withReq_hostAnswer]
      exact s.withReq_frame _
    refine ⟨fun discarded => ⟨s.withReq q, ?_, rfl, s.withReq_frame q⟩,
      fun latched idle long unsound => answered latched idle (State.takeFrame_malformed long unsound),
      fun code body latched idle sound =>
        ⟨fun unknown => answered latched idle (State.takeFrame_unknownRequest sound unknown),
          fun refused => answered latched idle (State.takeFrame_badField sound refused)⟩⟩
    rw [execSubmit_ends free ends bytes k]
    split
    · rename_i both
      have short : bytes.length < 2 := by simpa [both] using discarded
      rw [State.takeFrame_of_short short]
    · rfl
  · intro s span bytes k code body r free ends idle sound parsed
    let u := s.withReq (s.req.risen (PortStatus.idle.byte :: List.replicate bytes.length 0))
    have ran : exec (.submit span bytes k) s = .next (u.startRequest r) :=
      (execSubmit_idle free ends idle bytes k).trans (congrArg _ (State.takeFrame_taken sound parsed))
    refine ⟨_, ran, u.startRequest_req r, fun table => State.startRequest_asked table s _,
      fun tableless => ?_⟩
    rw [State.startRequest_tableless tableless]
    exact s.withReq_frame _

end Sys2Proof.Machine
end

section
/-! PROOF. The layouts of the host answers: numbers, marks and maps as bytes, and the code and body of every
answer (O38). -/

namespace Sys2Proof.Machine

/-! ### Numbers, flags and marks as bytes -/

/-- A number's bytes are those of its high part, then those of its low part (R185). -/
theorem bytesOfNat_add (m n v : Nat) :
    bytesOfNat (m + n) v = bytesOfNat m (v / 256 ^ n) ++ bytesOfNat n v := by
  induction m with
  | zero => rw [Nat.zero_add]; rfl
  | succ m ih =>
    rw [Nat.add_right_comm, bytesOfNat, bytesOfNat, ih, Nat.div_div_eq_div_mul, ← pow_add,
      Nat.add_comm n m, List.cons_append]

theorem bytesOfNat_one (v : Nat) : bytesOfNat 1 v = [BitVec.ofNat 8 v] := by
  rw [bytesOfNat, pow_zero, Nat.div_one, bytesOfNat]

theorem flagByte_eq (b : Bool) : flagByte b = BitVec.ofNat 8 b.toNat := by
  cases b <;> rfl

theorem bytesOfInt_eq (v : Int) : bytesOfInt v = bytesOfNat 2 (v % 65536).toNat := by
  rw [bytesOfInt, BitVec.toNat_ofInt]
  rfl

/-- Marks read as a number are the sum of their powers of two (Table 10-8). -/
theorem foldr_marks (marks : List Bool) (k : Nat) :
    ((marks.zipIdx k).map fun p => p.1.toNat * 2 ^ p.2).sum =
      2 ^ k * marks.foldr (fun b n => b.toNat + 2 * n) 0 := by
  induction marks generalizing k with
  | nil => rfl
  | cons b marks ih =>
    rw [List.zipIdx_cons, List.map_cons, List.sum_cons, ih, List.foldr_cons]
    ring

theorem mapBytes_eq (marks : List Bool) :
    mapBytes marks = bytesOfNat 3 (marks.zipIdx.map fun p => p.1.toNat * 2 ^ p.2).sum := by
  rw [foldr_marks, pow_zero, Nat.one_mul, mapBytes]

/-! ### Parts of answers -/

/-- The values of ISSUED tickets follow each other, and a FREE ticket has none (Table 10-8). -/
theorem ticketsBytes_issued (views : List TicketView) :
    (views.flatMap fun v => match v.issue with
      | some i => i.bytes
      | none => []) = (views.filterMap fun v => v.issue).flatMap IssueView.bytes := by
  induction views with
  | nil => rfl
  | cons v views ih =>
    rw [List.flatMap_cons, ih]
    cases issue : v.issue <;> simp [issue]

/-- The record image is laid out by Table 10-7. -/
theorem RecordImage.bytes_eq (h : Nat) (r : Record) (k : Nat) (listed : Bool) (next : Option Nat) :
    RecordImage.bytes ⟨h, r, k, listed, next⟩ =
      bytesOfNat 2 h ++ [BitVec.ofNat 8 r.state.code] ++ bytesOfNat 6 r.address.toNat ++
      [BitVec.ofNat 8 r.cls.code] ++ [BitVec.ofNat 8 r.weight] ++
      [BitVec.ofNat 8 (r.label.isSome.toNat + 2 * r.lingerOverride.isSome.toNat +
        4 * r.burstOverride.isSome.toNat + 8 * next.isSome.toNat + 16 * (!r.living).toNat)] ++
      labelBytes r.label ++ optBytes 2 r.lingerOverride ++ optBytes 2 r.burstOverride ++
      [BitVec.ofNat 8 ((if r.psMark = .awake then 1 else 0) + 2 * r.aged.toNat + 4 * listed.toNat)] ++
      bytesOfNat 2 r.rate ++ bytesOfInt r.balance ++ bytesOfNat 2 r.backlog ++
      [BitVec.ofNat 8 r.held] ++ bytesOfNat 2 r.linger ++ bytesOfNat 4 r.consumed ++
      bytesOfNat 2 r.grantCount ++ bytesOfInt r.lowest ++ bytesOfNat 2 r.highest ++
      [BitVec.ofNat 8 k] ++ optBytes 2 next ++ [r.state.drainByte] := by
  have presence : marksByte [r.label.isSome, r.lingerOverride.isSome, r.burstOverride.isSome,
      next.isSome, !r.living] = BitVec.ofNat 8 (r.label.isSome.toNat + 2 * r.lingerOverride.isSome.toNat +
        4 * r.burstOverride.isSome.toNat + 8 * next.isSome.toNat + 16 * (!r.living).toNat) := by
    rw [marksByte]
    congr 1
    simp only [List.foldr]
    omega
  have heard : marksByte [r.psMark == .awake, r.aged, listed] =
      BitVec.ofNat 8 ((if r.psMark = .awake then 1 else 0) + 2 * r.aged.toNat + 4 * listed.toNat) := by
    rw [marksByte]
    congr 1
    have mark : (r.psMark == .awake).toNat = if r.psMark = .awake then 1 else 0 := by
      cases r.psMark <;> rfl
    simp only [List.foldr, mark]
    omega
  rw [← presence, ← heard]
  obtain ⟨state⟩ := r
  cases state
  all_goals unfold RecordImage.bytes Record.living
  all_goals simp only [Bool.not_true, Bool.not_false, List.append_assoc, List.cons_append, List.nil_append]

/-! ### Every answer (O38) -/

/-- Settles O38: the layouts are the model's once every number is bytes, most significant first. -/
theorem hostAnswersOnTheWire : Obligations.HostAnswersOnTheWire := by
  unfold Obligations.HostAnswersOnTheWire
  intro b b2 b3 b4 b5 b6 signed label load map short
  have two : b2 = bytesOfNat 2 := funext fun v => by
    rw [bytesOfNat_add 1 1, bytesOfNat_one, bytesOfNat_one, pow_one]
  have three : b3 = bytesOfNat 3 := funext fun v => by
    rw [bytesOfNat_add 1 2, bytesOfNat_one, ← two]
  have four : b4 = bytesOfNat 4 := funext fun v => by rw [bytesOfNat_add 2 2, ← two]
  have five : b5 = bytesOfNat 5 := funext fun v => by
    rw [bytesOfNat_add 1 4, bytesOfNat_one, ← four]
  have six : b6 = bytesOfNat 6 := funext fun v => by rw [bytesOfNat_add 2 4, ← two, ← four]
  have sum : signed = bytesOfInt := funext fun v => by rw [bytesOfInt_eq, ← two]
  have flag (x : Bool) : b x.toNat = [flagByte x] := by rw [flagByte_eq]
  clear_value signed b6 b5 b4 b3 b2
  subst two three four five six sum
  simp only [flag]
  refine ⟨⟨rfl, rfl⟩, ⟨rfl, rfl⟩, ⟨rfl, rfl⟩, ⟨rfl, rfl⟩, ⟨rfl, rfl⟩, ⟨rfl, rfl⟩, ⟨rfl, rfl⟩, ⟨rfl, rfl⟩,
    fun h => ⟨⟨rfl, rfl⟩, ⟨rfl, rfl⟩, ⟨rfl, rfl⟩, ⟨rfl, rfl⟩⟩, fun h a l n => ⟨rfl, ?freed⟩,
    fun h n => ⟨rfl, rfl⟩, fun n => ⟨rfl, rfl⟩, fun h r k listed next => ⟨rfl, ?record⟩,
    fun c n first hs => ⟨rfl, ?listed⟩, fun views pool => ⟨rfl, ?tickets⟩, fun n => ⟨rfl, rfl⟩,
    fun n => ⟨rfl, rfl⟩, fun c n => ⟨rfl, ?classes⟩, fun entries => ⟨rfl, ?tiers⟩,
    fun c skip => ⟨rfl, rfl⟩, fun c => ⟨rfl, ?presence⟩, fun c => ⟨rfl, ?governor⟩, fun c => ⟨rfl, rfl⟩,
    fun l n w p u m h => ⟨rfl, ?state⟩, fun o notices left => ⟨rfl, ?notices⟩, fun r => ⟨rfl, ?identity⟩⟩
  case freed => rfl
  case record =>
    obtain ⟨state⟩ := r
    rcases state with _ | _ | _ | (_ | _)
    all_goals exact RecordImage.bytes_eq h _ k listed next
  case listed => rfl
  case tickets =>
    refine (congrArg (_ ++ ·) (ticketsBytes_issued views)).trans ?_
    rw [mapBytes_eq, mapBytes_eq, List.map_eq_flatMap (l := pool)]
    rfl
  case classes => rfl
  case tiers =>
    refine congrArg (2 :: entries.toList.flatMap ·) (funext fun e => ?_)
    cases e <;> rfl
  case presence => rfl
  case governor => rfl
  case state => cases l <;> rfl
  case notices =>
    refine congrArg (_ :: _ :: _ :: notices.flatMap ·) (funext fun n => ?_)
    obtain ⟨stamp, body⟩ := n
    cases body with
    | governor l u => cases l <;> rfl
    | _ => rfl
  case identity =>
    obtain ⟨cause, count⟩ := r
    cases cause <;> rfl

end Sys2Proof.Machine
end

section
/-! PROOF. Bytes and the numbers they spell, fields cut out of a body, and the items of a request against the
tables of their forms (for O37). -/

namespace Sys2Proof.Machine

/-! ### Bytes and the numbers they spell (R185) -/

theorem foldl_natOfBytes (bytes : List Byte) (k : Nat) :
    bytes.foldl (fun n b => n * 256 + b.toNat) k = k * 256 ^ bytes.length + natOfBytes bytes := by
  induction bytes generalizing k with
  | nil => simp [natOfBytes]
  | cons b bytes ih =>
    rw [natOfBytes, List.foldl_cons, ih, List.foldl_cons, ih, List.length_cons]
    ring

theorem natOfBytes_cons (b : Byte) (bytes : List Byte) :
    natOfBytes (b :: bytes) = b.toNat * 256 ^ bytes.length + natOfBytes bytes := by
  rw [natOfBytes, List.foldl_cons, foldl_natOfBytes, Nat.zero_mul, Nat.zero_add]

theorem natOfBytes_lt (bytes : List Byte) : natOfBytes bytes < 256 ^ bytes.length := by
  induction bytes with
  | nil => decide
  | cons b bytes ih =>
    have digit : b.toNat * 256 ^ bytes.length + 256 ^ bytes.length ≤ 256 ^ (bytes.length + 1) := by
      rw [← Nat.succ_mul, Nat.pow_succ']
      exact Nat.mul_le_mul_right _ b.isLt
    rw [natOfBytes_cons, List.length_cons]
    omega

theorem ofNat_toNat_byte (b : Byte) : BitVec.ofNat 8 b.toNat = b := by simp

/-- The last `n` bytes of a number do not depend on what stands above them. -/
theorem bytesOfNat_mul_add (n k v : Nat) : bytesOfNat n (k * 256 ^ n + v) = bytesOfNat n v := by
  induction n generalizing k with
  | zero => rfl
  | succ n ih =>
    have split : k * 256 ^ (n + 1) = k * 256 * 256 ^ n := by ring
    have head : BitVec.ofNat 8 (k * 256 + v / 256 ^ n) = BitVec.ofNat 8 (v / 256 ^ n) :=
      BitVec.eq_of_toNat_eq (by simp)
    rw [bytesOfNat, bytesOfNat, split, ih, Nat.mul_comm, Nat.mul_add_div (by positivity), head]

theorem bytesOfNat_natOfBytes (bytes : List Byte) :
    bytesOfNat bytes.length (natOfBytes bytes) = bytes := by
  induction bytes with
  | nil => rfl
  | cons b bytes ih =>
    have high : (b.toNat * 256 ^ bytes.length + natOfBytes bytes) / 256 ^ bytes.length = b.toNat := by
      rw [Nat.mul_comm, Nat.mul_add_div (by positivity), Nat.div_eq_of_lt (natOfBytes_lt bytes),
        Nat.add_zero]
    rw [natOfBytes_cons, List.length_cons, bytesOfNat, high, bytesOfNat_mul_add, ih, ofNat_toNat_byte]

theorem natOfBytes_bytesOfNat_of_lt {n v : Nat} (small : v < 256 ^ n) : natOfBytes (bytesOfNat n v) = v := by
  rw [natOfBytes_bytesOfNat, Nat.mod_eq_of_lt small]

/-! ### Fields of a body -/

section
variable {body : List Byte} {i n : Nat}

theorem fieldAt_lt (body : List Byte) (i n : Nat) : fieldAt body i n < 256 ^ n :=
  (natOfBytes_lt _).trans_le (Nat.pow_le_pow_right (by decide) (List.length_take_le ..))

/-- A body from a position on: the field there, then the rest. -/
theorem drop_eq_field (whole : i + n ≤ body.length) :
    body.drop i = bytesOfNat n (fieldAt body i n) ++ body.drop (i + n) := by
  have length : ((body.drop i).take n).length = n := by
    rw [List.length_take, List.length_drop]
    omega
  have spelt : bytesOfNat n (fieldAt body i n) = (body.drop i).take n := by
    conv_lhs => rw [← length, fieldAt, length]
    conv_rhs => rw [← bytesOfNat_natOfBytes ((body.drop i).take n), length]
  rw [spelt, ← List.drop_drop, List.take_append_drop]

theorem drop_eq_byte (within : i < body.length) :
    body.drop i = BitVec.ofNat 8 (byteAt body i) :: body.drop (i + 1) := by
  rw [byteAt, ofNat_toNat_byte, List.getD_eq_getElem _ _ within, List.drop_eq_getElem_cons within]

theorem bytesOfNat_fieldAt (length : body.length = n) : bytesOfNat n (fieldAt body 0 n) = body := by
  have rest := drop_eq_field (show 0 + n ≤ body.length by omega)
  rw [Nat.zero_add, ← length, List.drop_length, List.append_nil, length] at rest
  exact rest.symm

end

/-! ### Items (R186, Table 10-5) -/

/-- The functions by which a parser reads the items of a request say what this table of forms says. -/
structure ReadsForms (forms : List ItemForm) (width : Nat → Option Nat) (slot : Nat → Nat)
    (inRange : Nat → Nat → Bool) : Prop where
  known : ∀ id n, width id = some n → ∃ f ∈ forms, f.id = id
  width : ∀ f ∈ forms, width f.id = some f.width
  slot : ∀ f ∈ forms, slot f.id = f.counted
  range : ∀ f ∈ forms, ∀ v < 256 ^ f.width, inRange f.id v = true ↔ f.least ≤ v ∧ v ≤ f.most
  spelt : ∀ f ∈ forms, f.id < 256 ∧ f.most < 256 ^ f.width

/-- An item as a parser hands it on: its identifier and its value. -/
def Item.pair (i : Item) : Nat × Nat := (i.form.id, i.value)

/-- Each item has a listed form and a value that its bytes can spell, in its range or not. -/
def ItemsListed (forms : List ItemForm) (items : List Item) : Prop :=
  ∀ i ∈ items, i.form ∈ forms ∧ i.value < 256 ^ i.form.width

section
variable {forms : List ItemForm} {width : Nat → Option Nat} {slot : Nat → Nat}
  {inRange : Nat → Nat → Bool} {items : List Item}

theorem takeItems_bytes (reads : ReadsForms forms width slot inRange) (listed : ItemsListed forms items)
    {fuel : Nat} (enough : (items.flatMap Item.bytes).length ≤ fuel) :
    takeItems width fuel (items.flatMap Item.bytes) = some (items.map Item.pair) := by
  induction items generalizing fuel with
  | nil => cases fuel <;> rfl
  | cons i items ih =>
    obtain ⟨⟨mem, small⟩, others⟩ := List.forall_mem_cons.1 listed
    have id : (BitVec.ofNat 8 i.form.id).toNat = i.form.id :=
      Nat.mod_eq_of_lt (reads.spelt i.form mem).1
    have length := length_bytesOfNat i.form.width i.value
    cases fuel with
    | zero => simp [Item.bytes] at enough
    | succ fuel =>
      have rest := ih others (fuel := fuel) (by simp [Item.bytes] at enough ⊢; omega)
      simp [Item.bytes, takeItems, id, reads.width _ mem, length, List.take_left' length,
        List.drop_left' length, rest, natOfBytes_bytesOfNat_of_lt small, Item.pair]

theorem items_of_takeItems (reads : ReadsForms forms width slot inRange) {fuel : Nat} {body : List Byte}
    {pairs : List (Nat × Nat)} (taken : takeItems width fuel body = some pairs) :
    ∃ items, ItemsListed forms items ∧ pairs = items.map Item.pair ∧ body = items.flatMap Item.bytes := by
  induction fuel generalizing body pairs with
  | zero =>
    cases body with
    | nil => exact ⟨[], by simp [ItemsListed], by simpa [takeItems] using taken.symm, rfl⟩
    | cons id rest => simp [takeItems] at taken
  | succ fuel ih =>
    cases body with
    | nil => exact ⟨[], by simp [ItemsListed], by simpa [takeItems] using taken.symm, rfl⟩
    | cons id rest =>
      simp only [takeItems] at taken
      split at taken
      · cases taken
      rename_i n known
      split at taken
      · cases taken
      rename_i long
      obtain ⟨later, next, rfl⟩ := Option.map_eq_some_iff.1 taken
      obtain ⟨items, listed, rfl, spelt⟩ := ih next
      obtain ⟨f, mem, same⟩ := reads.known _ _ known
      obtain rfl : f.width = n := by simpa [same, known] using (reads.width f mem).symm
      have length : (rest.take f.width).length = f.width := by
        rw [List.length_take]
        omega
      refine ⟨⟨f, natOfBytes (rest.take f.width)⟩ :: items, List.forall_mem_cons.2 ⟨⟨mem, ?_⟩, listed⟩,
        by simp [Item.pair, same], ?_⟩
      · exact (natOfBytes_lt _).trans_eq (congrArg _ length)
      · have value := bytesOfNat_natOfBytes (rest.take f.width)
        rw [length] at value
        rw [List.flatMap_cons, ← spelt, Item.bytes, value, same, ofNat_toNat_byte, List.cons_append,
          List.take_append_drop]

/-- A body passes the item checks exactly when it spells items that may stand together (R186). -/
theorem itemsOf_iff (reads : ReadsForms forms width slot inRange) {body : List Byte}
    {pairs : List (Nat × Nat)} : itemsOf width slot inRange body = some pairs ↔
      ∃ items, ItemsFit forms items ∧ pairs = items.map Item.pair ∧ body = items.flatMap Item.bytes := by
  have checks {items : List Item} (listed : ItemsListed forms items) :
      (decide (((items.map Item.pair).map fun p => slot p.1).Nodup) &&
        (items.map Item.pair).all fun p => inRange p.1 p.2) = true ↔ ItemsFit forms items := by
    have slots : (items.map Item.pair).map (fun p => slot p.1) = items.map fun i => i.form.counted := by
      rw [List.map_map]
      exact List.map_congr_left fun i mem => reads.slot _ (listed i mem).1
    rw [Bool.and_eq_true, decide_eq_true_iff, slots, List.all_map, List.all_eq_true]
    constructor
    · rintro ⟨once, ranges⟩
      exact ⟨fun i mem => ⟨(listed i mem).1,
        (reads.range _ (listed i mem).1 _ (listed i mem).2).1 (ranges i mem)⟩, once⟩
    · rintro ⟨ranges, once⟩
      exact ⟨once, fun i mem => (reads.range _ (listed i mem).1 _ (listed i mem).2).2 (ranges i mem).2⟩
  constructor
  · intro passed
    rw [itemsOf] at passed
    split at passed
    · cases passed
    rename_i taken
    obtain ⟨items, listed, rfl, spelt⟩ := items_of_takeItems reads taken
    split at passed
    · rename_i ok
      cases passed
      exact ⟨items, (checks listed).1 ok, rfl, spelt⟩
    · cases passed
  · rintro ⟨items, fit, rfl, rfl⟩
    have listed : ItemsListed forms items := fun i mem =>
      ⟨(fit.listed i mem).1, (fit.listed i mem).2.2.trans_lt (reads.spelt _ (fit.listed i mem).1).2⟩
    rw [itemsOf, takeItems_bytes reads listed le_rfl]
    exact if_pos ((checks listed).2 fit)

theorem itemValue_pairs (items : List Item) (id : Nat) :
    itemValue (items.map Item.pair) id = carried items id := by
  induction items with
  | nil => rfl
  | cons i items ih =>
    rw [itemValue] at ih
    rw [itemValue, List.map_cons, Item.pair, List.lookup_cons, carried, List.find?_cons, ih, carried]
    rw [BEq.comm (a := id)]
    cases i.form.id == id <;> rfl

/-- An item that is carried is in its range. -/
theorem ItemsFit.of_carried (fit : ItemsFit forms items) {id v : Nat} (value : carried items id = some v) :
    ∃ f ∈ forms, f.id = id ∧ f.least ≤ v ∧ v ≤ f.most := by
  obtain ⟨i, found, rfl⟩ := Option.map_eq_some_iff.1 value
  obtain ⟨mem, range⟩ := fit.listed i (List.mem_of_find?_eq_some found)
  exact ⟨i.form, mem, by simpa using List.find?_some found, range⟩

theorem ItemsFit.carried_le (fit : ItemsFit forms items) {id v most : Nat}
    (value : carried items id = some v) (bound : ∀ f ∈ forms, f.id = id → f.most ≤ most) : v ≤ most := by
  obtain ⟨f, mem, same, -, high⟩ := fit.of_carried value
  exact high.trans (bound f mem same)

end

end Sys2Proof.Machine
end

section
/-! PROOF. The requests that carry items: AMEND, SET_CLASS, SET_SCHEDULER, SET_PRESENCE, SET_GOVERNOR and
SET_NOTICE, each parsed exactly from its layout (for O37). -/

namespace Sys2Proof.Machine

/-! ### The tables of forms, read by the parsers (Table 10-5) -/

theorem amend_readsForms : ReadsForms amendForms amendWidth amendSlot amendInRange where
  known id n h := by
    rw [amendWidth.eq_def] at h
    split at h
    case h_11 => cases h
    all_goals simp [amendForms]
  width := by decide
  slot := by decide
  range := by
    simp [amendForms, amendInRange]
    omega
  spelt := by decide

theorem class_readsForms : ReadsForms classForms classWidth id classInRange where
  known id n h := by
    rw [classWidth.eq_def] at h
    split at h
    case h_7 => cases h
    all_goals simp [classForms]
  width := by decide
  slot := by decide
  range := by
    simp [classForms, classInRange]
    omega
  spelt := by decide

theorem scheduler_readsForms : ReadsForms schedulerForms schedulerWidth id schedulerInRange where
  known id n h := by
    rw [schedulerWidth] at h
    split at h
    · rename_i range
      rw [between_iff] at range
      simp [schedulerForms]
      omega
    · cases h
  width := by decide
  slot := by decide
  range := by simp [schedulerForms, schedulerInRange]
  spelt := by decide

theorem presence_readsForms : ReadsForms presenceForms presenceWidth id presenceInRange where
  known id n h := by
    rw [presenceWidth.eq_def] at h
    split at h
    case h_5 => cases h
    all_goals simp [presenceForms]
  width := by decide
  slot := by decide
  range := by simp [presenceForms, presenceInRange]
  spelt := by decide

theorem governor_readsForms : ReadsForms governorForms governorWidth id governorInRange where
  known id n h := by
    rw [governorWidth.eq_def] at h
    split at h
    case h_6 => cases h
    all_goals simp [governorForms]
  width := by decide
  slot := by decide
  range := by simp [governorForms, governorInRange]
  spelt := by decide

theorem notice_readsForms : ReadsForms noticeForms noticeWidth id noticeInRange where
  known id n h := by
    rw [noticeWidth.eq_def] at h
    split at h
    case h_3 => cases h
    all_goals simp [noticeForms]
  width := by decide
  slot := by decide
  range := by simp [noticeForms, noticeInRange]
  spelt := by decide

/-! ### Values read and values carried -/

theorem Cls.ofCode_eq_some {n : Nat} {c : Cls} : Cls.ofCode n = some c ↔ n = c.code := by
  constructor
  · intro h
    rw [Cls.ofCode.eq_def] at h
    split at h <;> cases h <;> rfl
  · rintro rfl
    cases c <;> rfl

theorem exists_code {n : Nat} (known : n ≤ 2) : ∃ c : Cls, n = c.code := by
  match n with
  | 0 => exact ⟨.podium, rfl⟩
  | 1 => exact ⟨.seat, rfl⟩
  | 2 => exact ⟨.background, rfl⟩

section
variable {o : Option Nat}

theorem map_code_eq_iff (known : ∀ n, o = some n → n ≤ 2) {x : Option Cls} :
    x.map Cls.code = o ↔ x = o.bind Cls.ofCode := by
  cases o with
  | none => simp
  | some n =>
    obtain ⟨c, rfl⟩ := exists_code (known n rfl)
    rw [Option.bind_some, Cls.ofCode_eq_some.2 rfl, Option.map_eq_some_iff]
    constructor
    · rintro ⟨d, rfl, same⟩
      rw [← Cls.ofCode_eq_some.2 same.symm, Cls.ofCode_eq_some.2 rfl]
    · rintro rfl
      exact ⟨c, rfl, rfl⟩

/-- A value as it is coded is the one carried exactly when it is the decoded one, where each decodes what the
other codes. -/
theorem map_eq_iff_eq_map {α β : Type} {code : α → β} {decode : β → α} {o : Option β}
    (left : ∀ x, decode (code x) = x) (right : ∀ n, o = some n → code (decode n) = n) {x : Option α} :
    x.map code = o ↔ x = o.map decode := by
  constructor
  · rintro rfl
    cases x <;> simp [left]
  · rintro rfl
    cases o <;> simp [right]

theorem map_toNat_eq_iff (flag : ∀ n, o = some n → n ≤ 1) {x : Option Bool} :
    x.map Bool.toNat = o ↔ x = o.map (· == 1) := by
  refine map_eq_iff_eq_map (fun b => by cases b <;> rfl) fun n carried => ?_
  match n, flag n carried with
  | 0, _ | 1, _ => rfl

end

section
variable {forms : List ItemForm} {items : List Item}

theorem itemFlag_pairs (items : List Item) (id : Nat) :
    itemFlag (items.map Item.pair) id = (carried items id).map (· == 1) := by
  rw [itemFlag, itemValue_pairs]

theorem itemOptional_pairs (items : List Item) (id : Nat) :
    itemOptional (items.map Item.pair) id = carriedChange items id := by
  rw [itemOptional, itemValue_pairs, itemValue_pairs, carriedChange]
  cases carried items id <;> cases carried items (id + 1) <;> rfl

theorem flag_carried_iff (fit : ItemsFit forms items) {id : Nat}
    (flag : ∀ f ∈ forms, f.id = id → f.most ≤ 1) {x : Option Bool} :
    x.map Bool.toNat = carried items id ↔ x = itemFlag (items.map Item.pair) id := by
  rw [itemFlag_pairs]
  exact map_toNat_eq_iff fun n value => fit.carried_le value flag

/-- A label change is the one carried exactly when it is the one read: two bytes spell 16 bits. -/
theorem label_carried_iff (fit : ItemsFit amendForms items) {x : Option (Option (BitVec 16))} :
    x.map (Option.map BitVec.toNat) = carriedChange items 3 ↔
      x = (itemOptional (items.map Item.pair) 3).map (Option.map (BitVec.ofNat 16)) := by
  rw [itemOptional_pairs]
  refine map_eq_iff_eq_map (fun l => by cases l <;> simp) fun change carries => ?_
  cases change with
  | none => rfl
  | some v =>
    have value : carried items 3 = some v := by
      rw [carriedChange] at carries
      split at carries
      · exact Option.some.inj carries
      · split at carries <;> simp at carries
    have small : v ≤ 65535 := fit.carried_le value (by decide)
    rw [Option.map_some, Option.map_some, BitVec.toNat_ofNat, Nat.mod_eq_of_lt (by omega)]

end

/-! ### What the items of a request say -/

/-- The AMEND that the items of a body make (Table 2-5). -/
def amendmentOf (pairs : List (Nat × Nat)) : Amendment where
  cls := (itemValue pairs 1).bind Cls.ofCode
  weight := itemValue pairs 2
  label := (itemOptional pairs 3).map (·.map (BitVec.ofNat 16))
  lingerOverride := itemOptional pairs 5
  burstOverride := itemOptional pairs 7
  barred := itemFlag pairs 9
  toInitial := (itemValue pairs 10).isSome

/-- The SET_CLASS that the items of a body make (Table 2-4). -/
def classItemsOf (pairs : List (Nat × Nat)) : ClassItems where
  capacity := itemValue pairs 1
  lingerReload := itemValue pairs 2
  autoRetire := itemFlag pairs 3
  ticketCap := itemValue pairs 4
  initialBalance := itemValue pairs 5
  balanceCap := itemValue pairs 6

/-- The SET_PRESENCE that the items of a body make (Table 3-6). -/
def presenceItemsOf (pairs : List (Nat × Nat)) : PresenceItems where
  passPeriod := itemValue pairs 1
  mgmtSwitch := itemFlag pairs 2
  dataSwitch := itemFlag pairs 3
  ctrlSwitch := itemFlag pairs 4

/-- The SET_GOVERNOR that the items of a body make (Table 7-5). -/
def governorItemsOf (pairs : List (Nat × Nat)) : GovernorItems where
  mode := itemFlag pairs 1
  window := itemValue pairs 2
  enter := itemValue pairs 3
  exit := itemValue pairs 4
  minHold := itemValue pairs 5

section
variable {items : List Item}

theorem Amendment.says_iff (fit : ItemsFit amendForms items) {a : Amendment} :
    a.Says items ↔ a = amendmentOf (items.map Item.pair) := by
  have cls {x : Option Cls} : x.map Cls.code = carried items 1 ↔
      x = (itemValue (items.map Item.pair) 1).bind Cls.ofCode := by
    rw [itemValue_pairs]
    exact map_code_eq_iff fun n value => fit.carried_le value (by decide)
  have barred {x : Option Bool} := flag_carried_iff fit (id := 9) (by decide) (x := x)
  have label {x : Option (Option (BitVec 16))} := label_carried_iff fit (x := x)
  constructor
  · rintro ⟨isCls, isWeight, isLabel, isLinger, isBurst, isBarred, isInitial⟩
    rw [← itemValue_pairs] at isWeight isInitial
    rw [← itemOptional_pairs] at isLinger isBurst
    obtain ⟨⟩ := a
    exact Amendment.mk.injEq .. ▸
      ⟨cls.1 isCls, isWeight, label.1 isLabel, isLinger, isBurst, barred.1 isBarred, isInitial⟩
  · rintro rfl
    exact ⟨cls.2 rfl, itemValue_pairs .., label.2 rfl, itemOptional_pairs .., itemOptional_pairs ..,
      barred.2 rfl, congrArg Option.isSome (itemValue_pairs ..)⟩

theorem ClassItems.says_iff (fit : ItemsFit classForms items) {i : ClassItems} :
    i.Says items ↔ i = classItemsOf (items.map Item.pair) := by
  have retire {x : Option Bool} := flag_carried_iff fit (id := 3) (by decide) (x := x)
  constructor
  · rintro ⟨isCapacity, isReload, isRetire, isCap, isInitial, isBalance⟩
    rw [← itemValue_pairs] at isCapacity isReload isCap isInitial isBalance
    obtain ⟨⟩ := i
    exact ClassItems.mk.injEq .. ▸
      ⟨isCapacity, isReload, retire.1 isRetire, isCap, isInitial, isBalance⟩
  · rintro rfl
    exact ⟨itemValue_pairs .., itemValue_pairs .., retire.2 rfl, itemValue_pairs .., itemValue_pairs ..,
      itemValue_pairs ..⟩

theorem PresenceItems.says_iff (fit : ItemsFit presenceForms items) {i : PresenceItems} :
    i.Says items ↔ i = presenceItemsOf (items.map Item.pair) := by
  have mgmt {x : Option Bool} := flag_carried_iff fit (id := 2) (by decide) (x := x)
  have data {x : Option Bool} := flag_carried_iff fit (id := 3) (by decide) (x := x)
  have ctrl {x : Option Bool} := flag_carried_iff fit (id := 4) (by decide) (x := x)
  constructor
  · rintro ⟨isPeriod, isMgmt, isData, isCtrl⟩
    rw [← itemValue_pairs] at isPeriod
    obtain ⟨⟩ := i
    exact PresenceItems.mk.injEq .. ▸ ⟨isPeriod, mgmt.1 isMgmt, data.1 isData, ctrl.1 isCtrl⟩
  · rintro rfl
    exact ⟨itemValue_pairs .., mgmt.2 rfl, data.2 rfl, ctrl.2 rfl⟩

theorem GovernorItems.says_iff (fit : ItemsFit governorForms items) {i : GovernorItems} :
    i.Says items ↔ i = governorItemsOf (items.map Item.pair) := by
  have mode {x : Option Bool} := flag_carried_iff fit (id := 1) (by decide) (x := x)
  constructor
  · rintro ⟨isMode, isWindow, isEnter, isExit, isHold⟩
    rw [← itemValue_pairs] at isWindow isEnter isExit isHold
    obtain ⟨⟩ := i
    exact GovernorItems.mk.injEq .. ▸ ⟨mode.1 isMode, isWindow, isEnter, isExit, isHold⟩
  · rintro rfl
    exact ⟨mode.2 rfl, itemValue_pairs .., itemValue_pairs .., itemValue_pairs .., itemValue_pairs ..⟩

end

/-! ### The item requests, parsed and laid out -/

section
variable {g : Settings} {body : List Byte} {r : Request}

theorem parseAmendment_form (parsed : parseAmendment body = some r) : r.Form g 0x03 body := by
  simp only [parseAmendment] at parsed
  split at parsed
  · cases parsed
  rename_i pairs passed
  split at parsed
  · rename_i checks
    cases parsed
    simp only [Bool.and_eq_true, decide_eq_true_iff] at checks
    obtain ⟨items, fit, rfl, spelt⟩ := (itemsOf_iff amend_readsForms).1 passed
    refine ⟨rfl, checks.2, items, fit, (Amendment.says_iff fit).2 rfl, ?_⟩
    rw [← spelt]
    exact drop_eq_field (i := 0) (n := 2) (by omega)
  · cases parsed

theorem parseAmendment_of_form {h : Nat} {a : Amendment} (form : (Request.amend h a).Form g 0x03 body) :
    parseAmendment body = some (.amend h a) := by
  obtain ⟨-, bound, items, fit, told, rfl⟩ := form
  obtain rfl := (Amendment.says_iff fit).1 told
  have handle : fieldAt (bytesOfNat 2 h ++ items.flatMap Item.bytes) 0 2 = h :=
    natOfBytes_bytesOfNat_of_lt (n := 2) (by omega)
  have passed : itemsOf amendWidth amendSlot amendInRange
      ((bytesOfNat 2 h ++ items.flatMap Item.bytes).drop 2) = some (items.map Item.pair) :=
    (itemsOf_iff amend_readsForms).2 ⟨items, fit, rfl, rfl⟩
  have long : 2 ≤ (bytesOfNat 2 h ++ items.flatMap Item.bytes).length := by
    simp [length_bytesOfNat]
  simp only [parseAmendment, handle, passed, decide_eq_true long, decide_eq_true bound]
  rfl

theorem parseSetClass_form (parsed : parseSetClass g body = some r) : r.Form g 0x10 body := by
  rw [parseSetClass.eq_def] at parsed
  split at parsed
  · cases parsed
  rename_i code rest
  split at parsed
  · rename_i cls pairs named passed
    dsimp only at parsed
    split at parsed
    · rename_i order
      cases parsed
      obtain ⟨items, fit, rfl, rfl⟩ := (itemsOf_iff class_readsForms).1 passed
      refine ⟨rfl, order, items, fit, (ClassItems.says_iff fit).2 rfl, ?_⟩
      rw [← Cls.ofCode_eq_some.1 named, ofNat_toNat_byte]
    · cases parsed
  · cases parsed

theorem parseSetClass_of_form {c : Cls} {i : ClassItems} (form : (Request.setClass c i).Form g 0x10 body) :
    parseSetClass g body = some (.setClass c i) := by
  obtain ⟨-, order, items, fit, told, rfl⟩ := form
  obtain rfl := (ClassItems.says_iff fit).1 told
  have named : Cls.ofCode (BitVec.ofNat 8 c.code).toNat = some c := by cases c <;> rfl
  have passed := (itemsOf_iff class_readsForms).2 ⟨items, fit, rfl, rfl⟩
  simp only [parseSetClass, named, passed]
  exact if_pos order

theorem parseSetScheduler_form (parsed : parseSetScheduler body = some r) : r.Form g 0x12 body := by
  obtain ⟨pairs, passed, rfl⟩ := Option.map_eq_some_iff.1 parsed
  obtain ⟨items, fit, rfl, spelt⟩ := (itemsOf_iff scheduler_readsForms).1 passed
  exact ⟨rfl, items, fit, itemValue_pairs .., itemValue_pairs .., itemValue_pairs .., spelt⟩

theorem parseSetScheduler_of_form {i : SchedulerItems} (form : (Request.setScheduler i).Form g 0x12 body) :
    parseSetScheduler body = some (.setScheduler i) := by
  obtain ⟨-, items, fit, isLifetime, isShare, isInterval, rfl⟩ := form
  have passed := (itemsOf_iff scheduler_readsForms).2 ⟨items, fit, rfl, rfl⟩
  obtain ⟨⟩ := i
  subst isLifetime isShare isInterval
  simp [parseSetScheduler, passed, itemValue_pairs]

theorem parseSetPresence_form (parsed : parseSetPresence body = some r) : r.Form g 0x13 body := by
  obtain ⟨pairs, passed, rfl⟩ := Option.map_eq_some_iff.1 parsed
  obtain ⟨items, fit, rfl, spelt⟩ := (itemsOf_iff presence_readsForms).1 passed
  exact ⟨rfl, items, fit, (PresenceItems.says_iff fit).2 rfl, spelt⟩

theorem parseSetPresence_of_form {i : PresenceItems} (form : (Request.setPresence i).Form g 0x13 body) :
    parseSetPresence body = some (.setPresence i) := by
  obtain ⟨-, items, fit, told, rfl⟩ := form
  obtain rfl := (PresenceItems.says_iff fit).1 told
  rw [parseSetPresence, (itemsOf_iff presence_readsForms).2 ⟨items, fit, rfl, rfl⟩]
  rfl

theorem parseSetGovernor_form (parsed : parseSetGovernor g body = some r) : r.Form g 0x14 body := by
  simp only [parseSetGovernor] at parsed
  split at parsed
  · cases parsed
  rename_i pairs passed
  split at parsed
  · rename_i order
    cases parsed
    obtain ⟨items, fit, rfl, spelt⟩ := (itemsOf_iff governor_readsForms).1 passed
    exact ⟨rfl, order, items, fit, (GovernorItems.says_iff fit).2 rfl, spelt⟩
  · cases parsed

theorem parseSetGovernor_of_form {i : GovernorItems} (form : (Request.setGovernor i).Form g 0x14 body) :
    parseSetGovernor g body = some (.setGovernor i) := by
  obtain ⟨-, order, items, fit, told, rfl⟩ := form
  obtain rfl := (GovernorItems.says_iff fit).1 told
  simp only [parseSetGovernor, (itemsOf_iff governor_readsForms).2 ⟨items, fit, rfl, rfl⟩]
  exact if_pos order

theorem parseSetNotice_form (parsed : parseSetNotice body = some r) : r.Form g 0x15 body := by
  obtain ⟨pairs, passed, rfl⟩ := Option.map_eq_some_iff.1 parsed
  obtain ⟨items, fit, rfl, spelt⟩ := (itemsOf_iff notice_readsForms).1 passed
  exact ⟨rfl, items, fit, itemValue_pairs .., itemValue_pairs .., spelt⟩

theorem parseSetNotice_of_form {i : NoticeItems} (form : (Request.setNotice i).Form g 0x15 body) :
    parseSetNotice body = some (.setNotice i) := by
  obtain ⟨-, items, fit, isCount, isTime, rfl⟩ := form
  have passed := (itemsOf_iff notice_readsForms).2 ⟨items, fit, rfl, rfl⟩
  obtain ⟨⟩ := i
  subst isCount isTime
  simp [parseSetNotice, passed, itemValue_pairs]

end

end Sys2Proof.Machine
end

section
/-! PROOF. The requests of a fixed layout and ADMIT, each parsed exactly from its layout; and with these which
frames are which requests (O37). -/

namespace Sys2Proof.Machine

/-! ### Codes in a byte -/

theorem byte_eq_of_toNat {x : Byte} {n : Nat} (h : x.toNat = n) : x = BitVec.ofNat 8 n := by
  rw [← h, ofNat_toNat_byte]

theorem flagOfCode_eq_some {n : Nat} {b : Bool} : flagOfCode n = some b ↔ n = b.toNat := by
  constructor
  · intro h
    rw [flagOfCode.eq_def] at h
    split at h <;> cases h <;> rfl
  · rintro rfl
    cases b <;> rfl

/-- The byte that names a settings group (Table 10-4). -/
def Group.byte : Group → Byte
  | .classes => 1
  | .tiers => 2
  | .scheduler => 3
  | .presence => 4
  | .governor => 5
  | .notice => 6

theorem Group.ofCode_eq_some {x : Byte} {g : Group} : Group.ofCode x.toNat = some g ↔ x = g.byte := by
  constructor
  · intro h
    rw [Group.ofCode.eq_def] at h
    split at h <;> cases h <;> exact byte_eq_of_toNat ‹_›
  · rintro rfl
    cases g <;> rfl

theorem fieldAt_bytesOfNat {n v : Nat} (small : v < 256 ^ n) (rest : List Byte) :
    fieldAt (bytesOfNat n v ++ rest) 0 n = v := by
  rw [fieldAt, List.drop_zero, List.take_left' (length_bytesOfNat n v), natOfBytes_bytesOfNat_of_lt small]

/-! ### Requests of a fixed layout (Table 10-4) -/

section
variable {g : Settings} {body : List Byte} {r : Request}

theorem parseEmpty_eq_some {q : Request} : parseEmpty q body = some r ↔ body = [] ∧ q = r := by
  simp [parseEmpty]

theorem parseRetire_form (parsed : parseRetire body = some r) : r.Form g 0x04 body := by
  simp only [parseRetire] at parsed
  split at parsed
  · rename_i checks
    cases parsed
    simp only [Bool.and_eq_true, beq_iff_eq, decide_eq_true_iff] at checks
    exact ⟨rfl, checks.2, (bytesOfNat_fieldAt checks.1).symm⟩
  · cases parsed

theorem parseRetire_of_form {h : Nat} (form : (Request.retire h).Form g 0x04 body) :
    parseRetire body = some (.retire h) := by
  obtain ⟨-, bound, rfl⟩ := form
  have handle : fieldAt (bytesOfNat 2 h) 0 2 = h := fieldAt_bytesOfNat (by omega) []
  simp [parseRetire, length_bytesOfNat, handle, bound]

theorem parseLookup_form (parsed : parseLookup body = some r) : r.Form g 0x05 body := by
  rw [parseLookup] at parsed
  split at parsed
  · rename_i length
    cases parsed
    have address : (BitVec.ofNat 48 (fieldAt body 0 6)).toNat = fieldAt body 0 6 :=
      Nat.mod_eq_of_lt (fieldAt_lt body 0 6)
    refine ⟨rfl, ?_⟩
    rw [address, bytesOfNat_fieldAt (beq_iff_eq.1 length)]
  · cases parsed

theorem parseReadRecord_form (parsed : parseReadRecord body = some r) : r.Form g 0x06 body := by
  simp only [parseReadRecord] at parsed
  split at parsed
  · cases parsed
  rename_i clear named
  split at parsed
  · rename_i checks
    cases parsed
    simp only [Bool.and_eq_true, beq_iff_eq, decide_eq_true_iff] at checks
    obtain ⟨length, bound⟩ := checks
    have last : body.drop 2 = [BitVec.ofNat 8 clear.toNat] := by
      rw [drop_eq_byte (by omega), List.drop_of_length_le (by omega), flagOfCode_eq_some.1 named]
    exact ⟨rfl, bound, (drop_eq_field (i := 0) (n := 2) (by omega)).trans (congrArg _ last)⟩
  · cases parsed

theorem parseReadRecord_of_form {h : Nat} {clear : Bool}
    (form : (Request.readRecord h clear).Form g 0x06 body) :
    parseReadRecord body = some (.readRecord h clear) := by
  obtain ⟨-, bound, rfl⟩ := form
  have handle := fieldAt_bytesOfNat (n := 2) (v := h) (by omega) [BitVec.ofNat 8 clear.toNat]
  have named : flagOfCode (byteAt (bytesOfNat 2 h ++ [BitVec.ofNat 8 clear.toNat]) 2) = some clear := by
    cases clear <;> rfl
  simp [parseReadRecord, length_bytesOfNat, handle, named, bound]

theorem parseList_form (parsed : parseList body = some r) : r.Form g 0x07 body := by
  simp only [parseList] at parsed
  split at parsed
  · cases parsed
  rename_i cls named
  split at parsed
  · rename_i checks
    cases parsed
    simp only [Bool.and_eq_true, beq_iff_eq, decide_eq_true_iff] at checks
    obtain ⟨⟨length, start⟩, least, most⟩ := checks
    refine ⟨rfl, start, least, most, ?_⟩
    calc body = BitVec.ofNat 8 (byteAt body 0) :: body.drop 1 := drop_eq_byte (i := 0) (by omega)
      _ = BitVec.ofNat 8 cls.code :: (bytesOfNat 2 (fieldAt body 1 2) ++ body.drop 3) := by
        rw [Cls.ofCode_eq_some.1 named, drop_eq_field (i := 1) (n := 2) (by omega)]
      _ = _ := by
        rw [drop_eq_byte (i := 3) (by omega), List.drop_of_length_le (by omega)]
  · cases parsed

theorem parseList_of_form {c : Cls} {start count : Nat}
    (form : (Request.list c start count).Form g 0x07 body) :
    parseList body = some (.list c start count) := by
  obtain ⟨-, bound, least, most, spelt⟩ := form
  have length : body.length = 4 := by rw [spelt]; rfl
  have named : Cls.ofCode (byteAt body 0) = some c := by rw [spelt]; cases c <;> rfl
  have first : fieldAt body 1 2 = start := by
    rw [spelt]
    exact fieldAt_bytesOfNat (n := 2) (by omega) _
  have number : byteAt body 3 = count := by
    rw [spelt]
    exact Nat.mod_eq_of_lt (by omega)
  simp [parseList, length, named, first, number, bound, least, most]

theorem TierEntry.inRange_iff {e : TierEntry} : e.inRange = true ↔
    (1 ≤ e.rateLimit ∧ e.rateLimit ≤ 30000) ∧ (1 ≤ e.quantum ∧ e.quantum ≤ 8000) ∧
      (200 ≤ e.burstCap ∧ e.burstCap ≤ 8000) ∧
      (200 ≤ e.crowdedBurstCap ∧ e.crowdedBurstCap ≤ e.burstCap) ∧
      (1 ≤ e.frameCap ∧ e.frameCap ≤ 64) := by
  simp only [TierEntry.inRange, Bool.and_eq_true, decide_eq_true_iff, and_assoc]

/-- The tier entry that the body of a SET_TIER WRITE gives (Table 10-4). -/
def tierEntryOf (body : List Byte) : TierEntry where
  rateLimit := fieldAt body 2 2
  quantum := fieldAt body 4 2
  burstCap := fieldAt body 6 2
  crowdedBurstCap := fieldAt body 8 2
  frameCap := byteAt body 10

theorem tierEntryOf_spelt (length : body.length = 11) :
    body = [BitVec.ofNat 8 (byteAt body 0), BitVec.ofNat 8 (byteAt body 1)] ++
      bytesOfNat 2 (tierEntryOf body).rateLimit ++ bytesOfNat 2 (tierEntryOf body).quantum ++
      bytesOfNat 2 (tierEntryOf body).burstCap ++ bytesOfNat 2 (tierEntryOf body).crowdedBurstCap ++
      [BitVec.ofNat 8 (tierEntryOf body).frameCap] := by
  have last : body.drop 10 = [BitVec.ofNat 8 (byteAt body 10)] := by
    rw [drop_eq_byte (by omega), List.drop_of_length_le (by omega)]
  have field {i : Nat} (within : i + 2 ≤ body.length) := drop_eq_field within
  calc body = BitVec.ofNat 8 (byteAt body 0) :: body.drop 1 := drop_eq_byte (i := 0) (by omega)
    _ = _ := by
      rw [drop_eq_byte (i := 1) (by omega), field (i := 2) (by omega), field (i := 4) (by omega),
        field (i := 6) (by omega), field (i := 8) (by omega), last]
      simp [tierEntryOf]

theorem parseSetTier_form (parsed : parseSetTier body = some r) : r.Form g 0x11 body := by
  simp only [parseSetTier] at parsed
  split at parsed
  · rename_i entry
    rw [decide_eq_true_iff] at entry
    split at parsed
    · rename_i write
      split at parsed
      · rename_i checks
        cases parsed
        rw [Bool.and_eq_true, beq_iff_eq] at checks
        obtain ⟨rate, quantum, burst, crowded, frames⟩ := TierEntry.inRange_iff.1 checks.2
        have spelt := tierEntryOf_spelt checks.1
        rw [write] at spelt
        exact ⟨rfl, entry, rate, quantum, burst, crowded, frames, spelt⟩
      · cases parsed
    · rename_i invalidate
      split at parsed
      · rename_i length
        cases parsed
        rw [beq_iff_eq] at length
        refine ⟨rfl, entry, (drop_eq_byte (body := body) (i := 0) (by omega)).trans ?_⟩
        rw [invalidate, drop_eq_byte (i := 0 + 1) (by omega), List.drop_of_length_le (by omega)]
        rfl
      · cases parsed
    · cases parsed
  · cases parsed

theorem parseSetTierWrite_of_form {k : Nat} {e : TierEntry}
    (form : (Request.setTierWrite k e).Form g 0x11 body) :
    parseSetTier body = some (.setTierWrite k e) := by
  obtain ⟨-, entry, rate, quantum, burst, crowded, frames, spelt⟩ := form
  have length : body.length = 11 := by rw [spelt]; rfl
  have write : byteAt body 0 = 1 := by rw [spelt]; rfl
  have named : byteAt body 1 = k := by
    rw [spelt]
    exact Nat.mod_eq_of_lt (by omega)
  have given : tierEntryOf body = e := by
    obtain ⟨⟩ := e
    dsimp only at rate quantum burst crowded frames spelt
    rw [tierEntryOf, TierEntry.mk.injEq, spelt]
    exact ⟨fieldAt_bytesOfNat (n := 2) (by omega) _, fieldAt_bytesOfNat (n := 2) (by omega) _,
      fieldAt_bytesOfNat (n := 2) (by omega) _, fieldAt_bytesOfNat (n := 2) (by omega) _,
      Nat.mod_eq_of_lt (by omega)⟩
  have range : e.inRange = true := TierEntry.inRange_iff.2 ⟨rate, quantum, burst, crowded, frames⟩
  rw [tierEntryOf] at given
  simp only [parseSetTier, named, write, given, length, range, decide_eq_true entry]
  rfl

theorem parseSetTierInvalidate_of_form {k : Nat} (form : (Request.setTierInvalidate k).Form g 0x11 body) :
    parseSetTier body = some (.setTierInvalidate k) := by
  obtain ⟨-, entry, rfl⟩ := form
  have named : byteAt [2, BitVec.ofNat 8 k] 1 = k := Nat.mod_eq_of_lt (by omega)
  simp only [parseSetTier, named, decide_eq_true entry]
  rfl

theorem parseReadSettings_form (parsed : parseReadSettings body = some r) : r.Form g 0x18 body := by
  rw [parseReadSettings.eq_def] at parsed
  split at parsed
  · cases parsed
  rename_i group named
  split at parsed
  · rename_i length
    cases parsed
    obtain ⟨x, rfl⟩ := List.length_eq_one_iff.1 (beq_iff_eq.1 length)
    exact ⟨rfl, congrArg (fun x => [x]) (Group.ofCode_eq_some.1 named)⟩
  · cases parsed

theorem parseReadSettings_of_form {group : Group} (form : (Request.readSettings group).Form g 0x18 body) :
    parseReadSettings body = some (.readSettings group) := by
  obtain ⟨-, rfl⟩ := form
  cases group <;> rfl

theorem parseReadGovernor_form (parsed : parseReadGovernor body = some r) : r.Form g 0x19 body := by
  rw [parseReadGovernor.eq_def] at parsed
  split at parsed
  · cases parsed
  rename_i clear named
  split at parsed
  · rename_i length
    cases parsed
    obtain ⟨x, rfl⟩ := List.length_eq_one_iff.1 (beq_iff_eq.1 length)
    exact ⟨rfl, congrArg (fun x => [x]) (byte_eq_of_toNat (flagOfCode_eq_some.1 named))⟩
  · cases parsed

theorem parseReadGovernor_of_form {clear : Bool} (form : (Request.readGovernor clear).Form g 0x19 body) :
    parseReadGovernor body = some (.readGovernor clear) := by
  obtain ⟨-, rfl⟩ := form
  cases clear <;> rfl

theorem parseHold_form (parsed : parseHold body = some r) : r.Form g 0x1A body := by
  rw [parseHold_eq] at parsed
  split at parsed
  · rename_i checks
    cases parsed
    obtain ⟨length, bound⟩ := checks
    have spelt := bytesOfNat_natOfBytes body
    rw [length] at spelt
    exact ⟨rfl, bound, spelt.symm⟩
  · cases parsed

theorem parseHold_of_form {ms : Nat} (form : (Request.hold ms).Form g 0x1A body) :
    parseHold body = some (.hold ms) := by
  obtain ⟨-, bound, rfl⟩ := form
  rw [parseHold_eq, natOfBytes_bytesOfNat_of_lt (by omega), if_pos ⟨length_bytesOfNat .., bound⟩]

theorem parseFetchNotices_form (parsed : parseFetchNotices body = some r) : r.Form g 0x1B body := by
  simp only [parseFetchNotices] at parsed
  split at parsed
  · rename_i checks
    cases parsed
    simp only [Bool.and_eq_true, beq_iff_eq, decide_eq_true_iff] at checks
    obtain ⟨length, least, most⟩ := checks
    obtain ⟨x, rfl⟩ := List.length_eq_one_iff.1 length
    exact ⟨rfl, least, most, congrArg (fun x => [x]) (byte_eq_of_toNat rfl)⟩
  · cases parsed

theorem parseFetchNotices_of_form {n : Nat} (form : (Request.fetchNotices n).Form g 0x1B body) :
    parseFetchNotices body = some (.fetchNotices n) := by
  obtain ⟨-, least, most, rfl⟩ := form
  have number : byteAt [BitVec.ofNat 8 n] 0 = n := Nat.mod_eq_of_lt (by omega)
  simp [parseFetchNotices, number, least, most]

theorem parseReset_form (parsed : parseReset body = some r) : r.Form g 0x1C body := by
  rw [parseReset] at parsed
  split at parsed
  · rename_i length
    obtain ⟨x, rfl⟩ := List.length_eq_one_iff.1 (beq_iff_eq.1 length)
    split at parsed
    · rename_i full
      cases parsed
      exact ⟨rfl, congrArg (fun x => [x]) (byte_eq_of_toNat full)⟩
    · rename_i accounts
      cases parsed
      exact ⟨rfl, congrArg (fun x => [x]) (byte_eq_of_toNat accounts)⟩
    · cases parsed
  · cases parsed

end

/-! ### ADMIT (R27, Table 10-4) -/

/-- An optional field of two bytes, left out where it is absent (R186). -/
def optionalBytes (v : Option Nat) : List Byte := (v.map (bytesOfNat 2)).getD []

/-- The presence marks of an ADMIT: bit 0 for the label, bit 1 for the linger override, bit 2 for the burst
override. -/
def presenceMarks (label linger burst : Bool) : Nat := label.toNat + 2 * linger.toNat + 4 * burst.toNat

theorem presenceMarks_testBit : ∀ label linger burst : Bool,
    (presenceMarks label linger burst).testBit 0 = label ∧
      (presenceMarks label linger burst).testBit 1 = linger ∧
      (presenceMarks label linger burst).testBit 2 = burst ∧ presenceMarks label linger burst < 8 := by
  decide

theorem presenceMarks_of_testBit : ∀ n < 8,
    presenceMarks (n.testBit 0) (n.testBit 1) (n.testBit 2) = n := by
  decide

theorem admissionBody_eq (a : Admission) : admissionBody a =
    bytesOfNat 6 a.address.toNat ++ (BitVec.ofNat 8 a.cls.code :: BitVec.ofNat 8 a.weight ::
      BitVec.ofNat 8 (presenceMarks a.label.isSome a.lingerOverride.isSome a.burstOverride.isSome) ::
      (optionalBytes (a.label.map BitVec.toNat) ++ (optionalBytes a.lingerOverride ++
        optionalBytes a.burstOverride))) := by
  simp [admissionBody, optionalBytes, presenceMarks]

theorem length_optionalBytes (v : Option Nat) : (optionalBytes v).length = 2 * v.isSome.toNat := by
  cases v with
  | none => rfl
  | some n => exact length_bytesOfNat 2 n

theorem fieldAt_optionalBytes {v : Option Nat} {n : Nat} (present : v = some n) (small : n < 256 ^ 2)
    (rest : List Byte) : fieldAt (optionalBytes v ++ rest) 0 2 = n := by
  subst present
  exact fieldAt_bytesOfNat small rest

/-- A field behind other bytes is the field of what follows them. -/
theorem fieldAt_append {front : List Byte} {k : Nat} (length : front.length = k) (back : List Byte)
    (i n : Nat) : fieldAt (front ++ back) (k + i) n = fieldAt back i n := by
  rw [fieldAt, ← List.drop_drop, List.drop_left' length, fieldAt]

theorem drop_eq_optional {body : List Byte} {i : Nat} (present : Bool)
    (within : i + 2 * present.toNat ≤ body.length) :
    body.drop i = optionalBytes (if present then some (fieldAt body i 2) else none) ++
      body.drop (i + 2 * present.toNat) := by
  cases present with
  | false => rfl
  | true => exact drop_eq_field within

/-- Where the linger override of an ADMIT stands: behind the label, where there is one. -/
def lingerPlace (body : List Byte) : Nat := 9 + 2 * ((byteAt body 8).testBit 0).toNat

/-- Where the burst override of an ADMIT stands. -/
def burstPlace (body : List Byte) : Nat := lingerPlace body + 2 * ((byteAt body 8).testBit 1).toNat

/-- The ADMIT that a body gives (Table 10-4). -/
def admissionOf (body : List Byte) (cls : Cls) : Admission where
  address := BitVec.ofNat 48 (fieldAt body 0 6)
  cls := cls
  weight := byteAt body 7
  label := if (byteAt body 8).testBit 0 then some (BitVec.ofNat 16 (fieldAt body 9 2)) else none
  lingerOverride := if (byteAt body 8).testBit 1 then some (fieldAt body (lingerPlace body) 2) else none
  burstOverride := if (byteAt body 8).testBit 2 then some (fieldAt body (burstPlace body) 2) else none

/-- A body has the length that its presence marks give, and its fields are in range (R27). -/
structure AdmissionSound (body : List Byte) : Prop where
  marks : byteAt body 8 < 8
  length : body.length = burstPlace body + 2 * ((byteAt body 8).testBit 2).toNat
  weight : 1 ≤ byteAt body 7 ∧ byteAt body 7 ≤ 8
  linger : (byteAt body 8).testBit 1 = true →
    1 ≤ fieldAt body (lingerPlace body) 2 ∧ fieldAt body (lingerPlace body) 2 ≤ 65535
  burst : (byteAt body 8).testBit 2 = true →
    200 ≤ fieldAt body (burstPlace body) 2 ∧ fieldAt body (burstPlace body) 2 ≤ 8000

theorem parseAdmission_eq_some {body : List Byte} {r : Request} : parseAdmission body = some r ↔
    ∃ cls, Cls.ofCode (byteAt body 6) = some cls ∧ AdmissionSound body ∧
      .admitStation (admissionOf body cls) = r := by
  constructor
  · intro parsed
    simp only [parseAdmission] at parsed
    split at parsed
    · cases parsed
    rename_i cls named
    split at parsed
    · rename_i checks
      cases parsed
      simp only [Bool.and_eq_true, Bool.or_eq_true, Bool.not_eq_true', beq_iff_eq, decide_eq_true_iff]
        at checks
      obtain ⟨⟨⟨⟨⟨-, marks⟩, length⟩, weight⟩, linger⟩, burst⟩ := checks
      exact ⟨cls, named, ⟨marks, length, weight, fun present => linger.resolve_left (by simp [present]),
        fun present => burst.resolve_left (by simp [present])⟩, rfl⟩
    · cases parsed
  · rintro ⟨cls, named, ⟨marks, length, weight, linger, burst⟩, rfl⟩
    have long : 9 ≤ body.length := by
      rw [length, burstPlace, lingerPlace]
      omega
    simp only [parseAdmission, named]
    refine if_pos ?_
    simp only [Bool.and_eq_true, Bool.or_eq_true, Bool.not_eq_true', beq_iff_eq, decide_eq_true_iff]
    exact ⟨⟨⟨⟨⟨long, marks⟩, length⟩, weight⟩, (Bool.eq_false_or_eq_true _).symm.imp_right linger⟩,
      (Bool.eq_false_or_eq_true _).symm.imp_right burst⟩

theorem ite_isSome_eq {α : Type} {o : Option α} {x : α} (value : ∀ v, o = some v → x = v) :
    (if o.isSome then some x else none) = o := by
  cases o with
  | none => rfl
  | some v => exact congrArg some (value v rfl)

theorem isSome_ite {α : Type} (b : Bool) (x : α) : (if b then some x else none).isSome = b := by
  cases b <;> rfl

/-- A sound body is the layout of the ADMIT that it gives. -/
theorem AdmissionSound.spelt {body : List Byte} (sound : AdmissionSound body) {cls : Cls}
    (named : Cls.ofCode (byteAt body 6) = some cls) : body = admissionBody (admissionOf body cls) := by
  have length := sound.length
  have long : 9 ≤ body.length := by
    rw [length, burstPlace, lingerPlace]
    omega
  have address : (BitVec.ofNat 48 (fieldAt body 0 6)).toNat = fieldAt body 0 6 :=
    Nat.mod_eq_of_lt (fieldAt_lt body 0 6)
  have label : (admissionOf body cls).label.map BitVec.toNat =
      if (byteAt body 8).testBit 0 then some (fieldAt body 9 2) else none := by
    rw [admissionOf]
    split
    · exact congrArg some (Nat.mod_eq_of_lt (fieldAt_lt body 9 2))
    · rfl
  rw [admissionBody_eq, label]
  simp only [admissionOf, isSome_ite, address, presenceMarks_of_testBit _ sound.marks,
    ← Cls.ofCode_eq_some.1 named]
  have optional : body.drop 9 =
      optionalBytes (if (byteAt body 8).testBit 0 then some (fieldAt body 9 2) else none) ++
        (optionalBytes (if (byteAt body 8).testBit 1 then some (fieldAt body (lingerPlace body) 2)
          else none) ++
        optionalBytes (if (byteAt body 8).testBit 2 then some (fieldAt body (burstPlace body) 2)
          else none)) := by
    have linger : lingerPlace body = 9 + 2 * ((byteAt body 8).testBit 0).toNat := rfl
    have burst : burstPlace body = lingerPlace body + 2 * ((byteAt body 8).testBit 1).toNat := rfl
    rw [drop_eq_optional ((byteAt body 8).testBit 0) (by omega), ← linger,
      drop_eq_optional ((byteAt body 8).testBit 1) (by omega), ← burst,
      drop_eq_optional ((byteAt body 8).testBit 2) (by omega), ← length, List.drop_length,
      List.append_nil]
  calc body = bytesOfNat 6 (fieldAt body 0 6) ++ body.drop 6 := drop_eq_field (i := 0) (by omega)
    _ = _ := by
      rw [drop_eq_byte (i := 6) (by omega), drop_eq_byte (i := 7) (by omega),
        drop_eq_byte (i := 8) (by omega), optional]

theorem parseAdmission_form {g : Settings} {body : List Byte} {r : Request}
    (parsed : parseAdmission body = some r) : r.Form g 0x02 body := by
  obtain ⟨cls, named, sound, rfl⟩ := parseAdmission_eq_some.1 parsed
  refine ⟨rfl, ⟨sound.weight, fun n present => ?_, fun n present => ?_⟩, sound.spelt named⟩
  · simp only [admissionOf, Option.ite_none_right_eq_some, Option.some.injEq] at present
    exact present.2 ▸ sound.linger present.1
  · simp only [admissionOf, Option.ite_none_right_eq_some, Option.some.injEq] at present
    exact present.2 ▸ sound.burst present.1

section
variable (a : Admission)

theorem byteAt_admissionBody_marks : byteAt (admissionBody a) 8 =
    presenceMarks a.label.isSome a.lingerOverride.isSome a.burstOverride.isSome := by
  obtain ⟨-, -, -, few⟩ :=
    presenceMarks_testBit a.label.isSome a.lingerOverride.isSome a.burstOverride.isSome
  rw [admissionBody_eq]
  exact Nat.mod_eq_of_lt (by omega)

/-- The presence marks of a laid out ADMIT say which of its fields are present. -/
theorem testBit_admissionBody :
    (byteAt (admissionBody a) 8).testBit 0 = a.label.isSome ∧
      (byteAt (admissionBody a) 8).testBit 1 = a.lingerOverride.isSome ∧
      (byteAt (admissionBody a) 8).testBit 2 = a.burstOverride.isSome ∧
      byteAt (admissionBody a) 8 < 8 := by
  rw [byteAt_admissionBody_marks]
  exact presenceMarks_testBit ..

theorem lingerPlace_admissionBody : lingerPlace (admissionBody a) = 9 + 2 * a.label.isSome.toNat := by
  rw [lingerPlace, (testBit_admissionBody a).1]

theorem burstPlace_admissionBody : burstPlace (admissionBody a) =
    9 + (2 * a.label.isSome.toNat + 2 * a.lingerOverride.isSome.toNat) := by
  rw [burstPlace, lingerPlace_admissionBody, (testBit_admissionBody a).2.1, Nat.add_assoc]

theorem length_admissionBody : (admissionBody a).length =
    burstPlace (admissionBody a) + 2 * a.burstOverride.isSome.toNat := by
  rw [burstPlace_admissionBody, admissionBody_eq]
  simp [length_bytesOfNat, length_optionalBytes]
  omega

/-- The optional fields of an ADMIT stand behind nine bytes. -/
theorem fieldAt_admissionBody (i n : Nat) : fieldAt (admissionBody a) (9 + i) n =
    fieldAt (optionalBytes (a.label.map BitVec.toNat) ++
      (optionalBytes a.lingerOverride ++ optionalBytes a.burstOverride)) i n := by
  rw [admissionBody_eq]
  exact fieldAt_append (front := bytesOfNat 6 _ ++ [_, _, _]) rfl _ i n

theorem length_optionalLabel :
    (optionalBytes (a.label.map BitVec.toNat)).length = 2 * a.label.isSome.toNat := by
  rw [length_optionalBytes, Option.isSome_map]

end

section
variable {a : Admission} {n : Nat}

theorem fieldAt_admissionBody_label {l : BitVec 16} (present : a.label = some l) :
    BitVec.ofNat 16 (fieldAt (admissionBody a) 9 2) = l := by
  have value : a.label.map BitVec.toNat = some l.toNat := congrArg (Option.map _) present
  rw [fieldAt_admissionBody a 0, fieldAt_optionalBytes value l.isLt, BitVec.ofNat_toNat, BitVec.setWidth_eq]

theorem fieldAt_admissionBody_linger (fits : a.Fits) (present : a.lingerOverride = some n) :
    fieldAt (admissionBody a) (lingerPlace (admissionBody a)) 2 = n := by
  have small := (fits.linger n present).2
  have place := fieldAt_append (length_optionalLabel a)
    (optionalBytes a.lingerOverride ++ optionalBytes a.burstOverride) 0 2
  rw [lingerPlace_admissionBody, fieldAt_admissionBody]
  exact place.trans (fieldAt_optionalBytes present (by omega) _)

theorem fieldAt_admissionBody_burst (fits : a.Fits) (present : a.burstOverride = some n) :
    fieldAt (admissionBody a) (burstPlace (admissionBody a)) 2 = n := by
  have small := (fits.burst n present).2
  have place := fieldAt_append (length_optionalBytes a.lingerOverride) (optionalBytes a.burstOverride) 0 2
  have value := fieldAt_optionalBytes present (by omega) []
  rw [List.append_nil] at value
  rw [burstPlace_admissionBody, fieldAt_admissionBody, fieldAt_append (length_optionalLabel a)]
  exact place.trans value

theorem byteAt_admissionBody_weight (fits : a.Fits) : byteAt (admissionBody a) 7 = a.weight := by
  have small := fits.weight.2
  rw [admissionBody_eq]
  exact Nat.mod_eq_of_lt (by omega)

theorem byteAt_admissionBody_cls : Cls.ofCode (byteAt (admissionBody a) 6) = some a.cls := by
  rw [admissionBody_eq]
  obtain ⟨_, c⟩ := a
  cases c <;> rfl

theorem admissionBody_sound (fits : a.Fits) : AdmissionSound (admissionBody a) := by
  obtain ⟨-, lingers, bursts, few⟩ := testBit_admissionBody a
  refine ⟨few, by rw [length_admissionBody, bursts], (byteAt_admissionBody_weight fits).symm ▸ fits.weight,
    fun present => ?_, fun present => ?_⟩
  · obtain ⟨n, present⟩ := Option.isSome_iff_exists.1 (lingers ▸ present)
    rw [fieldAt_admissionBody_linger fits present]
    exact fits.linger n present
  · obtain ⟨n, present⟩ := Option.isSome_iff_exists.1 (bursts ▸ present)
    rw [fieldAt_admissionBody_burst fits present]
    exact fits.burst n present

/-- What the layout of an ADMIT gives is the ADMIT. -/
theorem admissionOf_admissionBody (fits : a.Fits) : admissionOf (admissionBody a) a.cls = a := by
  obtain ⟨label, lingers, bursts, -⟩ := testBit_admissionBody a
  have address : BitVec.ofNat 48 (fieldAt (admissionBody a) 0 6) = a.address := by
    rw [admissionBody_eq, fieldAt_bytesOfNat a.address.isLt, BitVec.ofNat_toNat, BitVec.setWidth_eq]
  rw [admissionOf, label, lingers, bursts, byteAt_admissionBody_weight fits, address,
    ite_isSome_eq fun _ => fieldAt_admissionBody_label,
    ite_isSome_eq fun _ => fieldAt_admissionBody_linger fits,
    ite_isSome_eq fun _ => fieldAt_admissionBody_burst fits]

end

theorem parseAdmission_of_form {g : Settings} {body : List Byte} {a : Admission}
    (form : (Request.admitStation a).Form g 0x02 body) : parseAdmission body = some (.admitStation a) := by
  obtain ⟨-, fits, rfl⟩ := form
  exact parseAdmission_eq_some.2 ⟨a.cls, byteAt_admissionBody_cls, admissionBody_sound fits,
    congrArg _ (admissionOf_admissionBody fits)⟩

/-! ### Every request (O37) -/

section
variable {g : Settings} {code : Nat} {body : List Byte} {r : Request}

theorem parseRequest_eq_none : parseRequest g code body = none ↔ code ∉ requestCodes := by
  rw [parseRequest.eq_def]
  split
  case h_20 => simp_all [requestCodes]
  all_goals simp [requestCodes]

theorem parseRequest_form (parsed : parseRequest g code body = some (some r)) : r.Form g code body := by
  rw [parseRequest.eq_def] at parsed
  split at parsed
  all_goals simp only [Option.some.injEq, reduceCtorEq] at parsed
  case h_1 =>
    obtain ⟨empty, rfl⟩ := parseEmpty_eq_some.1 parsed
    exact ⟨rfl, empty⟩
  case h_2 => exact parseAdmission_form parsed
  case h_3 => exact parseAmendment_form parsed
  case h_4 => exact parseRetire_form parsed
  case h_5 => exact parseLookup_form parsed
  case h_6 => exact parseReadRecord_form parsed
  case h_7 => exact parseList_form parsed
  case h_8 =>
    obtain ⟨empty, rfl⟩ := parseEmpty_eq_some.1 parsed
    exact ⟨rfl, empty⟩
  case h_9 => exact parseSetClass_form parsed
  case h_10 => exact parseSetTier_form parsed
  case h_11 => exact parseSetScheduler_form parsed
  case h_12 => exact parseSetPresence_form parsed
  case h_13 => exact parseSetGovernor_form parsed
  case h_14 => exact parseSetNotice_form parsed
  case h_15 => exact parseReadSettings_form parsed
  case h_16 => exact parseReadGovernor_form parsed
  case h_17 => exact parseHold_form parsed
  case h_18 => exact parseFetchNotices_form parsed
  case h_19 => exact parseReset_form parsed

theorem parseRequest_of_form (form : r.Form g code body) : parseRequest g code body = some (some r) := by
  cases r with
  | identify => obtain ⟨rfl, rfl⟩ := form; rfl
  | admitStation a => obtain rfl := form.1; exact congrArg some (parseAdmission_of_form form)
  | amend h a => obtain rfl := form.1; exact congrArg some (parseAmendment_of_form form)
  | retire h => obtain rfl := form.1; exact congrArg some (parseRetire_of_form form)
  | lookup a => obtain ⟨rfl, rfl⟩ := form; exact congrArg some (parseLookup_bytes a)
  | readRecord h clear => obtain rfl := form.1; exact congrArg some (parseReadRecord_of_form form)
  | list c start count => obtain rfl := form.1; exact congrArg some (parseList_of_form form)
  | readTickets => obtain ⟨rfl, rfl⟩ := form; rfl
  | setClass c i => obtain rfl := form.1; exact congrArg some (parseSetClass_of_form form)
  | setTierWrite k e => obtain rfl := form.1; exact congrArg some (parseSetTierWrite_of_form form)
  | setTierInvalidate k => obtain rfl := form.1; exact congrArg some (parseSetTierInvalidate_of_form form)
  | setScheduler i => obtain rfl := form.1; exact congrArg some (parseSetScheduler_of_form form)
  | setPresence i => obtain rfl := form.1; exact congrArg some (parseSetPresence_of_form form)
  | setGovernor i => obtain rfl := form.1; exact congrArg some (parseSetGovernor_of_form form)
  | setNotice i => obtain rfl := form.1; exact congrArg some (parseSetNotice_of_form form)
  | readSettings group => obtain rfl := form.1; exact congrArg some (parseReadSettings_of_form form)
  | readGovernor clear => obtain rfl := form.1; exact congrArg some (parseReadGovernor_of_form form)
  | hold ms => obtain rfl := form.1; exact congrArg some (parseHold_of_form form)
  | fetchNotices n => obtain rfl := form.1; exact congrArg some (parseFetchNotices_of_form form)
  | resetFull => obtain ⟨rfl, rfl⟩ := form; rfl
  | resetAccounts => obtain ⟨rfl, rfl⟩ := form; rfl

end

/-- Settles O37: every parser accepts exactly the layouts of its requests, so a known code whose body is the
layout of none is refused. -/
theorem requestsDecoded : Obligations.RequestsDecoded := by
  refine ⟨rfl, rfl, rfl, fun g code body =>
    ⟨parseRequest_eq_none, fun r => ⟨parseRequest_form, parseRequest_of_form⟩, fun known formless => ?_⟩⟩
  match parsed : parseRequest g code body with
  | none => exact absurd known (parseRequest_eq_none.1 parsed)
  | some none => rfl
  | some (some r) => exact absurd (parseRequest_form parsed) (formless r)

end Sys2Proof.Machine
end

section
/-! PROOF. What a step does with a command waiting (O1). -/

namespace Sys2Proof.Machine

theorem step_of_cons {s : State} {c : Instr} {rest : List Instr} (front : s.pending = c :: rest) :
    step s = exec c { s with pending := rest } := by
  rw [step, front]

/-- Settles O1: setting the queue twice leaves the second queue, which is the rest that the step leaves. -/
theorem stepRunsFrontCommand : Obligations.StepRunsFrontCommand := fun _ _ _ => step_of_cons rfl

end Sys2Proof.Machine
end
